-- ==== Sys2Proof/Word.lean ====
section
/-! DEFINITION. The two widths of the hardware: the data byte and the 16-bit Word (spec/10_state.md R20, spec/00_scope.md R6, R8). -/
namespace Sys2Proof

/-- A data byte or an 8-bit register: `XLEN8` = 8 bits (R6). -/
abbrev Byte := BitVec 8

/-- A Word, a register pair, SP, PC or an address: `XLEN16` = 16 bits (R6, R20).
`+` on it is the wrapping Word addition of R21. -/
abbrev Word := BitVec 16

end Sys2Proof
end

