-- ==== Sys2Proof/Machine/Bits.lean ====
section
/-! DEFINITION. The Word accessors and bit operations (spec/10_state.md R20, R22) and the assembly of Words from
bytes (spec/00_scope.md R12, spec/30_encoding.md R106). -/
namespace Sys2Proof.Machine

/-- `get_high(w) = w[15:8]` (R20). -/
def getHigh (w : Word) : Byte := w.extractLsb' 8 8

/-- `get_low(w) = w[7:0]` (R20). -/
def getLow (w : Word) : Byte := w.extractLsb' 0 8

/-- The Word with high byte `h` and low byte `l` (R8's concatenation). -/
def wordOf (h l : Byte) : Word := h ++ l

/-- `set_high(w, h)` (R20). -/
def setHigh (w : Word) (h : Byte) : Word := wordOf h (getLow w)

/-- `set_low(w, l)` (R20). -/
def setLow (w : Word) (l : Byte) : Word := wordOf (getHigh w) l

/-- `zext_16(v)` (R12). -/
def zext16 (v : Byte) : Word := v.setWidth 16

/-- `set_bit(w, i)` (R22). The index type leaves out `i > 15`, for which no behaviour is given (U7, log 29). -/
def setBit (w : Word) (i : Fin 16) : Word := w ||| (1#16 <<< i.val)

/-- `unset_bit(w, i)` (R22). -/
def unsetBit (w : Word) (i : Fin 16) : Word := w &&& ~~~(1#16 <<< i.val)

/-- `test_bit(w, i) = w[i]` (R22). -/
def testBit (w : Word) (i : Fin 16) : Bool := w.getLsbD i.val

end Sys2Proof.Machine
end

