-- ==== Sys2Proof/Config.lean ====
section
/-! DEFINITION. What an implementation fixes: the fixed address constant, the spec's default parameter values
(spec/00_scope.md R6), and the free values: the functions of a peripheral other than VRAM_DEFAULT
(spec/20_memory.md R69). -/
namespace Sys2Proof

/-- The cycle-time value a step sends to the peripheral: the pair of R250.
DESIGN CHOICE of the spec (D33): the payload is exactly this pair. -/
structure CycleTime where
  frequency : Nat
  cycles    : Nat
deriving DecidableEq, Repr

namespace Config

/-- `OFFSET_BASE`, the fixed high-address base of the offset-immediate operand (R6, R139). -/
def offsetBase : Word := 0xFF00#16

/-- Default `RAM_START` (R6, D7). DESIGN CHOICE, log 5. -/
def ramStart : Word := 0xC000#16

/-- Default `RAM_SIZE` in bytes (R6, D7). DESIGN CHOICE, log 5. -/
def ramSize : Nat := 0x2000

/-- Default `PER_START` (R6, D7). DESIGN CHOICE, log 5. -/
def perStart : Word := 0x8000#16

/-- Default `PER_SIZE` in bytes (R6, D7). DESIGN CHOICE, log 5. -/
def perSize : Nat := 0x2000

/-- `FREQ_HZ` at reset. R6 leaves it OPEN; this is the value of the spec's vectors. DESIGN CHOICE, log 4. -/
def freqHz : Nat := 1000000

/-- What a byte of a device array reads as when nothing is listed for it (R45, D6). DESIGN CHOICE, log 3; unsafe. -/
def unlistedByte : Byte := 0#8

/-- The value of PC at reset (R44, D5: "PC set to the program's address"; R273 (b)).
DESIGN CHOICE, log 2; unsafe. -/
def launchPc : Word := 0xC000#16

/-- The state of a peripheral other than VRAM_DEFAULT, as a code the CORE never looks into (R40: "opaque to the
CORE"). DESIGN CHOICE, log 7. -/
abbrev DeviceState := Nat

/-- `per_read` of such a peripheral (R69); `none` is its `OutOfBounds`. A FREE VALUE: it has no body (log 7). -/
opaque deviceRead : DeviceState → Word → Option Byte

/-- What a `per_read` that succeeded leaves of such a peripheral's state: "peripheral reads and writes may have whatever
side effects the PERIPHERAL parameter gives them" (R84, R135, R151). A FREE VALUE: it has no body (logs 7 and 8). -/
opaque deviceAfterRead : DeviceState → Word → DeviceState

/-- `per_write` of such a peripheral (R69); `none` is its `OutOfBounds`. A FREE VALUE: it has no body (log 7). -/
opaque deviceWrite : DeviceState → Word → Byte → Option DeviceState

/-- `per_catchup` of such a peripheral (R69, R252). A FREE VALUE: it has no body (log 7). -/
opaque deviceCatchup : DeviceState → CycleTime → DeviceState

/-- `per_snapshot` of such a peripheral (R69, R77). A FREE VALUE: it has no body (log 7). -/
opaque deviceSnapshot : DeviceState → List Byte

end Config
end Sys2Proof
end

