-- ==== Sys2Proof/Syntax.lean ====
section
/-! DEFINITION. The syntax: register names, operand descriptors, operation kinds, instruction descriptors
(spec/30_encoding.md R102, R103, R111) and the 256 instructions, one constructor per row of spec/opcode_table.json
(R107, R112). -/
namespace Sys2Proof

/-- The eight 8-bit register names (spec/10_state.md R24). -/
inductive Reg8 where
  | a | f | b | c | d | e | h | l
deriving DecidableEq, Repr

/-- The six 16-bit register names (R23). -/
inductive Reg16 where
  | af | bc | de | hl | sp | pc
deriving DecidableEq, Repr

/-- Any of the fourteen register names (R9, R103). The name decides the width. -/
inductive RegName where
  | byte (r : Reg8)
  | word (r : Reg16)
deriving DecidableEq, Repr

/-- The width an accessor asks for (R233). -/
inductive Width where
  | byte | word
deriving DecidableEq, Repr

/-- An operand descriptor (R103): the document's five kinds and the spec's absent operand (D13, log 14). -/
inductive Operand where
  | reg (r : RegName)     -- direct register value
  | deref (r : RegName)   -- byte pointed to by a register
  | immByte               -- the byte after the opcode
  | offsetImm             -- the byte at 0xFF00 | n
  | immWord               -- the two bytes after the opcode, big-endian
  | none                  -- absent
deriving DecidableEq, Repr

/-- The placeholder kinds of the default table, by name (spec/44_placeholder_and_invalid.md R222). The names carry
no behaviour. -/
inductive PlaceholderKind where
  | inc | dec | rlca | ld_a16_sp | rrca | stop | rla | jr | rra | ld_hli | daa | cpl | ld_hld | scf | ccf | halt | adc | sub
  | sbc | and | xor | or | cp | ret | pop | jp | call | push | rst | prefix_cb | reti | ld_a16_a | di | ld_hl_spe | ld_a_a16 | ei
deriving DecidableEq, Repr

/-- The operation kind of a descriptor (R111). -/
inductive Kind where
  | nop | ld | add
  | invalid
  | placeholder (k : PlaceholderKind)
deriving DecidableEq, Repr

/-- An instruction descriptor, the five fields of R102. `width` is used for the PC advance only (R105). -/
structure Descriptor where
  kind   : Kind
  dst    : Operand
  src    : Operand
  width  : Nat
  cycles : Nat
deriving DecidableEq, Repr

/-- The 256 instructions, one per row of the table and in its order (R107, R112). `m` before a name stands for the
parentheses of the table's spelling: `ld_mbc_a` is `LD (BC),A`. An instruction carries no operand byte: its operand
descriptors say which bytes after the opcode the execution reads through the Bus (R105, R138 to R140); `Code` below
is an instruction together with those bytes. -/
inductive Instr where
  | nop | ld_bc_d16 | ld_mbc_a | inc_bc | inc_b | dec_b | ld_b_d8 | rlca
  | ld_ma16_sp | add_hl_bc | ld_a_mbc | dec_bc | inc_c | dec_c | ld_c_d8 | rrca
  | stop | ld_de_d16 | ld_mde_a | inc_de | inc_d | dec_d | ld_d_d8 | rla
  | jr_r8 | add_hl_de | ld_a_mde | dec_de | inc_e | dec_e | ld_e_d8 | rra
  | jr_nz_r8 | ld_hl_d16 | ld_mhli_a | inc_hl | inc_h | dec_h | ld_h_d8 | daa
  | jr_z_r8 | add_hl_hl | ld_a_mhli | dec_hl | inc_l | dec_l | ld_l_d8 | cpl
  | jr_nc_r8 | ld_sp_d16 | ld_mhld_a | inc_sp | inc_mhl | dec_mhl | ld_mhl_d8 | scf
  | jr_c_r8 | add_hl_sp | ld_a_mhld | dec_sp | inc_a | dec_a | ld_a_d8 | ccf
  | ld_b_b | ld_b_c | ld_b_d | ld_b_e | ld_b_h | ld_b_l | ld_b_mhl | ld_b_a
  | ld_c_b | ld_c_c | ld_c_d | ld_c_e | ld_c_h | ld_c_l | ld_c_mhl | ld_c_a
  | ld_d_b | ld_d_c | ld_d_d | ld_d_e | ld_d_h | ld_d_l | ld_d_mhl | ld_d_a
  | ld_e_b | ld_e_c | ld_e_d | ld_e_e | ld_e_h | ld_e_l | ld_e_mhl | ld_e_a
  | ld_h_b | ld_h_c | ld_h_d | ld_h_e | ld_h_h | ld_h_l | ld_h_mhl | ld_h_a
  | ld_l_b | ld_l_c | ld_l_d | ld_l_e | ld_l_h | ld_l_l | ld_l_mhl | ld_l_a
  | ld_mhl_b | ld_mhl_c | ld_mhl_d | ld_mhl_e | ld_mhl_h | ld_mhl_l | halt | ld_mhl_a
  | ld_a_b | ld_a_c | ld_a_d | ld_a_e | ld_a_h | ld_a_l | ld_a_mhl | ld_a_a
  | add_a_b | add_a_c | add_a_d | add_a_e | add_a_h | add_a_l | add_a_mhl | add_a_a
  | adc_a_b | adc_a_c | adc_a_d | adc_a_e | adc_a_h | adc_a_l | adc_a_mhl | adc_a_a
  | sub_b | sub_c | sub_d | sub_e | sub_h | sub_l | sub_mhl | sub_a
  | sbc_a_b | sbc_a_c | sbc_a_d | sbc_a_e | sbc_a_h | sbc_a_l | sbc_a_mhl | sbc_a_a
  | and_b | and_c | and_d | and_e | and_h | and_l | and_mhl | and_a
  | xor_b | xor_c | xor_d | xor_e | xor_h | xor_l | xor_mhl | xor_a
  | or_b | or_c | or_d | or_e | or_h | or_l | or_mhl | or_a
  | cp_b | cp_c | cp_d | cp_e | cp_h | cp_l | cp_mhl | cp_a
  | ret_nz | pop_bc | jp_nz_a16 | jp_a16 | call_nz_a16 | push_bc | add_a_d8 | rst_00h
  | ret_z | ret | jp_z_a16 | prefix_cb | call_z_a16 | call_a16 | adc_a_d8 | rst_08h
  | ret_nc | pop_de | jp_nc_a16 | invalid_d3 | call_nc_a16 | push_de | sub_d8 | rst_10h
  | ret_c | reti | jp_c_a16 | invalid_db | call_c_a16 | invalid_dd | sbc_a_d8 | rst_18h
  | ldh_ma8_a | pop_hl | ld_mc_a | invalid_e3 | invalid_e4 | push_hl | and_d8 | rst_20h
  | add_sp_e8 | jp_mhl | ld_ma16_a | invalid_eb | invalid_ec | invalid_ed | xor_d8 | rst_28h
  | ldh_a_ma8 | pop_af | ld_a_mc | di | invalid_f4 | push_af | or_d8 | rst_30h
  | ld_hl_sp_e8 | ld_sp_hl | ld_a_ma16 | ei | invalid_fc | invalid_fd | cp_d8 | rst_38h
deriving DecidableEq, Repr

/-- An instruction as it lies in memory: the instruction its opcode byte selects and the bytes that follow the
opcode in its format F1, F2 or F3 (R100, R104): none, `n`, or `h` then `l`. -/
structure Code where
  instr    : Instr
  operands : List Byte
deriving DecidableEq, Repr

/-- Why a byte sequence is not the start of an instruction's code. -/
inductive DecodeError where
  /-- There is no opcode byte. -/
  | noOpcode
  /-- The opcode selects `i`, whose format has more operand bytes than are there. -/
  | missingOperand (i : Instr)
deriving DecidableEq, Repr

end Sys2Proof
end

