-- ==== Sys2Proof/Machine/State.lean ====
section
/-! DEFINITION. The machine's state as plain data (spec/10_state.md R23, R39, R40; spec/20_memory.md R70), the launch
of a machine from the parameter INIT (R44 to R46; spec/70_reset_and_hazards.md R270 to R272), the state after reset,
and the ways a step can stop (spec/60_exceptions.md R230 to R234). -/
namespace Sys2Proof.Machine

/-- The contents of a device's byte array as (address, byte) pairs in one canonical form: addresses strictly rising,
and no pair whose byte is what an unlisted address reads as (log 3). -/
abbrev Memory := List Host.Cell

/-- The RAM device: a byte array bound to `[start, start + size - 1]` (R39, R64). -/
structure Ram where
  start : Word
  size  : Nat
  cells : Memory
deriving DecidableEq, Repr

/-- The peripheral's own state `per` (R40, R69): VRAM_DEFAULT's byte array, or the opaque state of any other
peripheral. DESIGN CHOICE, log 7. -/
inductive PeripheralUnit where
  | vram (cells : Memory)
  | device (code : Config.DeviceState)
deriving DecidableEq, Repr

/-- The peripheral: its range `[start, start + size - 1]` and its state (R69). -/
structure Peripheral where
  start : Word
  size  : Nat
  unit  : PeripheralUnit
deriving DecidableEq, Repr

/-- The Bus owns one RAM device and one peripheral and has no state of its own (R70, R76). -/
structure Bus where
  ram : Ram
  per : Peripheral
deriving DecidableEq, Repr

/-- The four flags (R31). -/
inductive Flag where
  | z | n | h | c
deriving DecidableEq, Repr

/-- `FLAG_Z_BIT`, `FLAG_N_BIT`, `FLAG_H_BIT`, `FLAG_C_BIT`: positions in F, each 0 to 7 (R6, R33). -/
structure FlagBits where
  z : Fin 8
  n : Fin 8
  h : Fin 8
  c : Fin 8
deriving DecidableEq, Repr

/-- What `interrupt()` answers (spec/60_exceptions.md R242). -/
inductive InterruptAnswer where
  | somethingHandled | nothingPending
deriving DecidableEq, Repr

/-- The machine. `af` to `pc` and `bus` are the spec's state; `freqHz`, `flagBits`, `intHook` and the ranges inside
`bus` are construction parameters, never written (R37, R43; log 5); `notices` and `returned` are the model's own
record of a step's outputs (log 20). -/
structure State where
  af : Word
  bc : Word
  de : Word
  hl : Word
  sp : Word
  pc : Word
  bus : Bus
  freqHz : Nat
  flagBits : FlagBits
  intHook : InterruptAnswer
  notices : List CycleTime      -- catch-up notifications sent, newest first
  returned : Option Nat         -- the cycle cost the latest successful step returned
deriving DecidableEq, Repr

/-- Why a step stops with a fault (R230). A faulting step changes nothing (R238), so a fault carries no state; every
one of them is safe: the machine itself stops there and reports it. -/
inductive Fault where
  /-- Raised by a device, for the address offered to it, and passed on by the Bus (R231). Safe. -/
  | outOfBounds (a : Word)
  /-- Raised for an opcode or operand combination without handling; `a` is the address of the opcode byte
  (R232, D22, log 16). Safe. -/
  | illegalInstruction (a : Word)
  /-- Raised by a register accessor asked for the wrong width (R233; the payload is D28, log 17). Safe. -/
  | badRegisterAccess (r : RegName) (w : Width)
  /-- Raised by executing a placeholder kind at `a` (R220, R234, D14, log 15). Safe: the model gives no next state
  where the source gives no behaviour. -/
  | unimplemented (a : Word)
deriving DecidableEq, Repr

/-- Why the model declines. Each is safe: it gives no next state. -/
inductive Refusal where
  /-- An instruction that has no meaning yet. No instruction of this model is refused so. -/
  | notModelled (mnemonic : String)
  /-- `stepWith` met an entry of an opcode table that R110 (b) or (c) excludes (U6, D21, log 27). Safe. -/
  | tableRefused
  /-- `construct` was given parameters that R6 or R273 (a) excludes (U10, U11, log 26). Safe. -/
  | parametersRefused
deriving DecidableEq, Repr

/-- The three outcomes of a step. -/
abbrev Outcome := Host.Outcome State Fault Refusal

/-- A Bus event: an access offered to the Bus, or the catch-up notification (R152, R254). -/
inductive BusEvent where
  | read (a : Word)
  | write (a : Word) (v : Byte)
  | catchup (t : CycleTime)
deriving DecidableEq, Repr

/-- A computation of a step: the Bus events it makes, in order, and its value or the first fault met (R236). -/
structure Traced (α : Type) where
  events : List BusEvent
  result : Except Fault α

/-- A resolved operand value, tagged with its width (spec/40_step_and_operands.md R135). -/
inductive Value where
  | byte (b : Byte)
  | word (w : Word)
deriving DecidableEq, Repr

/-- Which backing store `copy_of` copies (R77). -/
inductive SnapshotTarget where
  | ram | peripheralMemory
deriving DecidableEq, Repr

/-- The construction parameters (R6). -/
structure Params where
  ramStart : Word
  ramSize  : Nat
  perStart : Word
  perSize  : Nat
  freqHz   : Nat
  flagBits : FlagBits
  intHook  : InterruptAnswer
deriving DecidableEq, Repr

/-- The launch parameter INIT (R44, R45): the six Words, the RAM bytes and the peripheral's state. -/
structure Init where
  af : Word
  bc : Word
  de : Word
  hl : Word
  sp : Word
  pc : Word
  ram : Memory
  per : PeripheralUnit
deriving DecidableEq, Repr

/-- Construction of the CORE: RAM, peripheral, Bus, CPU (R271, R272). -/
def State.launch (p : Params) (i : Init) : State :=
  { af := i.af, bc := i.bc, de := i.de, hl := i.hl, sp := i.sp, pc := i.pc
    bus := ⟨⟨p.ramStart, p.ramSize, i.ram⟩, ⟨p.perStart, p.perSize, i.per⟩⟩
    freqHz := p.freqHz, flagBits := p.flagBits, intHook := p.intHook
    notices := [], returned := none }

/-- Flag positions Z = 7, N = 6, H = 5, C = 4 (R33, D2). PRESUMED (the LR35902's), log 6. -/
def FlagBits.default : FlagBits := ⟨7, 6, 5, 4⟩

/-- The spec's default parameters (R6). `freqHz` is OPEN there: log 4. -/
def Params.default : Params :=
  ⟨Config.ramStart, Config.ramSize, Config.perStart, Config.perSize, Config.freqHz, FlagBits.default,
    .nothingPending⟩

/-- The suggested default INIT: all zero, PC at the program's address (R44, R45, D5, D6). DESIGN CHOICE, logs 1 to 3;
unsafe. -/
def Init.default : Init := ⟨0#16, 0#16, 0#16, 0#16, 0#16, Config.launchPc, [], .vram []⟩

/-- The machine right after reset, which is construction (R270). -/
def State.reset : State := State.launch Params.default Init.default

end Sys2Proof.Machine
end

