-- ==== Sys2Proof/Machine/Memory.lean ====
section
/-! DEFINITION. The contents of a device's byte array: reading one byte, writing one byte, the canonical form
(spec/10_state.md R39, R40; log 3). -/
namespace Sys2Proof.Machine

/-- The byte at address `a`; an unlisted one reads as `Config.unlistedByte` (log 3). -/
def Memory.read : Memory → Nat → Byte
  | [], _ => Config.unlistedByte
  | (k, b) :: m, a => if k = a then b else Memory.read m a

/-- The listing of one byte in front of a memory: nothing when it is what an unlisted address reads as. -/
def Memory.put (a : Nat) (v : Byte) (m : Memory) : Memory :=
  if v = Config.unlistedByte then m else (a, v) :: m

/-- The contents after the byte at `a` becomes `v`. -/
def Memory.write : Memory → Nat → Byte → Memory
  | [], a, v => Memory.put a v []
  | (k, b) :: m, a, v =>
    if a < k then Memory.put a v ((k, b) :: m)
    else if a = k then Memory.put a v m
    else (k, b) :: Memory.write m a v

/-- The canonical form within a range: every address is at least `lo` and below `hi`, addresses rise strictly, and no
listed byte is what an unlisted address reads as. -/
def Memory.wfIn (lo hi : Nat) : Memory → Bool
  | [] => true
  | (k, b) :: m => decide (lo ≤ k) && decide (k < hi) && (b != Config.unlistedByte) && Memory.wfIn (k + 1) hi m

/-- The canonical form, within the whole address space. -/
def Memory.wf (m : Memory) : Bool := Memory.wfIn 0 65536 m

end Sys2Proof.Machine
end

