-- ==== Sys2Proof/Machine/Bus.lean ====
section
/-! DEFINITION. The RAM device (spec/20_memory.md R64 to R68), the peripheral at its boundary (R69), the Bus arbiter
(R70 to R77) and its catch-up (spec/60_exceptions.md R252). -/
namespace Sys2Proof.Machine

/-- `a` lies in `[start, start + size - 1]`. -/
def inRange (start : Word) (size : Nat) (a : Word) : Bool :=
  decide (start.toNat ≤ a.toNat) && decide (a.toNat < start.toNat + size)

/-- A range is non-empty and does not pass 0xFFFF (R6, R64, D7). -/
def rangeOk (start : Word) (size : Nat) : Bool :=
  decide (1 ≤ size) && decide (start.toNat + size ≤ 65536)

/-- The addresses the RAM device accepts (R64). -/
def Ram.holds (r : Ram) (a : Word) : Bool := inRange r.start r.size a

/-- `RAM.read_byte(a)` (R65). -/
def Ram.read (r : Ram) (a : Word) : Except Fault Byte :=
  if r.holds a then .ok (r.cells.read a.toNat) else .error (.outOfBounds a)

/-- `RAM.write_byte(a, v)` (R66). -/
def Ram.write (r : Ram) (a : Word) (v : Byte) : Except Fault Ram :=
  if r.holds a then .ok { r with cells := r.cells.write a.toNat v } else .error (.outOfBounds a)

/-- The addresses outside which every peripheral raises OutOfBounds (R69). -/
def Peripheral.holds (p : Peripheral) (a : Word) : Bool := inRange p.start p.size a

/-- `per_read` (R69): VRAM_DEFAULT is a plain memory; another peripheral answers as it will inside its range. -/
def Peripheral.read (p : Peripheral) (a : Word) : Except Fault Byte :=
  if p.holds a then
    match p.unit with
    | .vram cells => .ok (cells.read a.toNat)
    | .device d =>
      match Config.deviceRead d a with
      | some v => .ok v
      | none => .error (.outOfBounds a)
  else .error (.outOfBounds a)

/-- What a read leaves of the peripheral: RAM and VRAM_DEFAULT reads have no side effect, another peripheral's may have
(R69, R84; log 8), and a read that fails has none (R61). -/
def Peripheral.afterRead (p : Peripheral) (a : Word) : Peripheral :=
  if p.holds a then
    match p.unit with
    | .vram _ => p
    | .device d =>
      match Config.deviceRead d a with
      | some _ => { p with unit := .device (Config.deviceAfterRead d a) }
      | none => p
  else p

/-- `per_write` (R69). -/
def Peripheral.write (p : Peripheral) (a : Word) (v : Byte) : Except Fault Peripheral :=
  if p.holds a then
    match p.unit with
    | .vram cells => .ok { p with unit := .vram (cells.write a.toNat v) }
    | .device d =>
      match Config.deviceWrite d a v with
      | some d' => .ok { p with unit := .device d' }
      | none => .error (.outOfBounds a)
  else .error (.outOfBounds a)

/-- `per_catchup` (R69, R253): VRAM_DEFAULT's changes nothing. -/
def Peripheral.catchup (p : Peripheral) (t : CycleTime) : Peripheral :=
  match p.unit with
  | .vram _ => p
  | .device d => { p with unit := .device (Config.deviceCatchup d t) }

/-- The `size` bytes of an array from its start on: element `i` is the byte at `start + i` (R77, D29, log 22). -/
def arrayBytes (start : Word) (size : Nat) (m : Memory) : List Byte :=
  (List.range size).map fun i => m.read (start.toNat + i)

/-- `per_snapshot` (R69). -/
def Peripheral.snapshot (p : Peripheral) : List Byte :=
  match p.unit with
  | .vram cells => arrayBytes p.start p.size cells
  | .device d => Config.deviceSnapshot d

/-- `Bus.read_byte(a)` (R72): RAM first; on its rejection the peripheral's answer, verbatim. -/
def Bus.read (b : Bus) (a : Word) : Except Fault Byte :=
  match b.ram.read a with
  | .ok v => .ok v
  | .error _ => b.per.read a

/-- What a read at `a` leaves of the Bus: the peripheral sees it only when RAM rejects it (R71, R84). -/
def Bus.afterRead (b : Bus) (a : Word) : Bus :=
  match b.ram.read a with
  | .ok _ => b
  | .error _ => { b with per := b.per.afterRead a }

/-- What several reads leave of the Bus, one after another. -/
def Bus.afterReads (b : Bus) : List Word → Bus
  | [] => b
  | a :: rest => (b.afterRead a).afterReads rest

/-- `Bus.write_byte(a, v)` (R73): at most one device changes. -/
def Bus.write (b : Bus) (a : Word) (v : Byte) : Except Fault Bus :=
  match b.ram.write a v with
  | .ok r => .ok { b with ram := r }
  | .error _ =>
    match b.per.write a v with
    | .ok p => .ok { b with per := p }
    | .error f => .error f

/-- `Bus.catchup(t)` (R252): one forward, to the peripheral; RAM is untimed (C3). -/
def Bus.catchup (b : Bus) (t : CycleTime) : Bus := { b with per := b.per.catchup t }

/-- `Bus.copy_of(target)` (R77): an independent copy. -/
def Bus.copyOf (b : Bus) : SnapshotTarget → List Byte
  | .ram => arrayBytes b.ram.start b.ram.size b.ram.cells
  | .peripheralMemory => b.per.snapshot

/-- The peripheral is VRAM_DEFAULT. -/
def Peripheral.isVram (p : Peripheral) : Bool :=
  match p.unit with
  | .vram _ => true
  | .device _ => false

/-- `a` is answered by plain memory: by RAM, or by VRAM_DEFAULT. -/
def Bus.plain (b : Bus) (a : Word) : Bool := b.ram.holds a || (b.per.holds a && b.per.isVram)

/-- What the Bus answers at `a` changes only by a write: RAM holds `a`, or the peripheral is VRAM_DEFAULT
(R84, R87). -/
def Bus.steady (b : Bus) (a : Word) : Bool := b.ram.holds a || b.per.isVram

/-- The RAM device is as constructed and its contents are canonical. -/
def Ram.wf (r : Ram) : Bool :=
  rangeOk r.start r.size && r.cells.wfIn r.start.toNat (r.start.toNat + r.size)

/-- The peripheral's range is legal and VRAM_DEFAULT's contents are canonical. -/
def Peripheral.wf (p : Peripheral) : Bool :=
  rangeOk p.start p.size &&
    match p.unit with
    | .vram cells => cells.wfIn p.start.toNat (p.start.toNat + p.size)
    | .device _ => true

end Sys2Proof.Machine
end

