-- ==== Sys2Proof/Machine/Trace.lean ====
section
/-! DEFINITION. Sequencing of a step's computations: the Bus events accumulate in order (spec/40_step_and_operands.md
R152) and the first fault ends it (R150, spec/60_exceptions.md R236). -/
namespace Sys2Proof.Machine

/-- A value, without a Bus event. -/
def Traced.pure {α : Type} (a : α) : Traced α := ⟨[], .ok a⟩

/-- `raise f` (spec/00_scope.md R11). -/
def Traced.raise {α : Type} (f : Fault) : Traced α := ⟨[], .error f⟩

/-- A fallible computation that makes no Bus event. -/
def Traced.lift {α : Type} (x : Except Fault α) : Traced α := ⟨[], x⟩

/-- First `x`; when it has a value, then `k` of it; when it faults, nothing more (R150). -/
def Traced.bind {α β : Type} (x : Traced α) (k : α → Traced β) : Traced β :=
  match x.result with
  | .ok a => ⟨x.events ++ (k a).events, (k a).result⟩
  | .error f => ⟨x.events, .error f⟩

end Sys2Proof.Machine
end

