-- ==== Sys2Proof/Machine/Ops.lean ====
section
/-! DEFINITION. The named operations over registers, memory and the end of a step (spec/40_step_and_operands.md R130
to R133, R148 to R151), and the delivery of a fault (spec/60_exceptions.md R236, R238). -/
namespace Sys2Proof.Machine

/-- The 8-bit half a name stands for (spec/10_state.md R24). -/
def State.get8 (s : State) : Reg8 → Byte
  | .a => getHigh s.af
  | .f => getLow s.af
  | .b => getHigh s.bc
  | .c => getLow s.bc
  | .d => getHigh s.de
  | .e => getLow s.de
  | .h => getHigh s.hl
  | .l => getLow s.hl

/-- Writes one half; the other half of the Word and every other register stay (R24, R26, R131). -/
def State.set8 (s : State) (r : Reg8) (v : Byte) : State :=
  match r with
  | .a => { s with af := setHigh s.af v }
  | .f => { s with af := setLow s.af v }
  | .b => { s with bc := setHigh s.bc v }
  | .c => { s with bc := setLow s.bc v }
  | .d => { s with de := setHigh s.de v }
  | .e => { s with de := setLow s.de v }
  | .h => { s with hl := setHigh s.hl v }
  | .l => { s with hl := setLow s.hl v }

/-- The Word a 16-bit name stands for (R23, R25, R27). -/
def State.get16 (s : State) : Reg16 → Word
  | .af => s.af
  | .bc => s.bc
  | .de => s.de
  | .hl => s.hl
  | .sp => s.sp
  | .pc => s.pc

/-- Writes one Word; no other register changes (R26, R27, R133). -/
def State.set16 (s : State) (r : Reg16) (w : Word) : State :=
  match r with
  | .af => { s with af := w }
  | .bc => { s with bc := w }
  | .de => { s with de := w }
  | .hl => { s with hl := w }
  | .sp => { s with sp := w }
  | .pc => { s with pc := w }

/-- `get_byte(r)` (R130). -/
def State.getByte (s : State) : RegName → Except Fault Byte
  | .byte r => .ok (s.get8 r)
  | .word r => .error (.badRegisterAccess (.word r) .byte)

/-- `set_byte(r, v)` (R131). -/
def State.setByte (s : State) (n : RegName) (v : Byte) : Except Fault State :=
  match n with
  | .byte r => .ok (s.set8 r v)
  | .word r => .error (.badRegisterAccess (.word r) .byte)

/-- `get_word(r)` (R132). -/
def State.getWord (s : State) : RegName → Except Fault Word
  | .word r => .ok (s.get16 r)
  | .byte r => .error (.badRegisterAccess (.byte r) .word)

/-- `set_word(r, w)` (R133). -/
def State.setWord (s : State) (n : RegName) (w : Word) : Except Fault State :=
  match n with
  | .word r => .ok (s.set16 r w)
  | .byte r => .error (.badRegisterAccess (.byte r) .word)

/-- The machine after a Bus read at `a`: nothing but a peripheral that is not VRAM_DEFAULT can have changed
(spec/20_memory.md R84; log 8). -/
def State.afterRead (s : State) (a : Word) : State := { s with bus := s.bus.afterRead a }

/-- The machine after several Bus reads, one after another. -/
def State.afterReads (s : State) (as : List Word) : State := { s with bus := s.bus.afterReads as }

/-- The byte a Bus read answers, and the machine after the read. -/
def State.busRead (s : State) (a : Word) : Except Fault (Byte × State) :=
  match s.bus.read a with
  | .ok v => .ok (v, s.afterRead a)
  | .error f => .error f

/-- `MemRead(a, 1)` (spec/00_scope.md R10). -/
def memRead (s : State) (a : Word) : Traced (Byte × State) := ⟨[.read a], s.busRead a⟩

/-- The state after a Bus write: only the Bus changes. -/
def State.busWrite (s : State) (a : Word) (v : Byte) : Except Fault State :=
  match s.bus.write a v with
  | .ok b => .ok { s with bus := b }
  | .error f => .error f

/-- `MemWrite(a, 1, v)` (R10). -/
def memWrite (s : State) (a : Word) (v : Byte) : Traced State := ⟨[.write a v], s.busWrite a v⟩

/-- The PC advance `x[PC] <- x[PC] +16 width` (R148); it wraps (D11, log 13). -/
def State.advance (s : State) (width : Nat) : State := { s with pc := s.pc + BitVec.ofNat 16 width }

/-- The cycle-time value of a step that costs `cycles` (spec/60_exceptions.md R250). -/
def State.cycleTime (s : State) (cycles : Nat) : CycleTime := ⟨s.freqHz, cycles⟩

/-- The catch-up: the peripheral is notified once (R149, R252, R254); the model records the notice (log 20). -/
def State.notify (s : State) (cycles : Nat) : State :=
  { s with bus := s.bus.catchup (s.cycleTime cycles), notices := s.cycleTime cycles :: s.notices }

/-- `return d.cycles` (R149); the model records the returned value (log 20). -/
def State.giveCost (s : State) (cycles : Nat) : State := { s with returned := some cycles }

/-- The state at the end of a successful step: advance, catch-up, return, in this order (R148, R149). -/
def State.conclude (s : State) (width cycles : Nat) : State := ((s.advance width).notify cycles).giveCost cycles

/-- The end of a successful step, with its one Bus event, the catch-up (R149, R254). -/
def finish (width cycles : Nat) (s : State) : Traced State :=
  ⟨[.catchup (s.cycleTime cycles)], .ok (s.conclude width cycles)⟩

/-- Taking an exception: a fault is what the step returns to its caller, and nothing else happens (R236, R238). No
register saves anything, no status or mode changes, PC stays, control goes nowhere, and there is nothing to return
from (R239): the state before the step is the state after it. -/
def deliver (x : Traced State) : Outcome :=
  match x.result with
  | .ok s => .next s
  | .error f => .fault f

end Sys2Proof.Machine
end

