-- ==== Sys2Proof/Machine/Flags.lean ====
section
/-! DEFINITION. The flags: their places in F (spec/10_state.md R31 to R34), and what ADD computes (spec/43_add.md R200
to R203). -/
namespace Sys2Proof.Machine

/-- The position of a flag in F (R33). -/
def FlagBits.pos (p : FlagBits) : Flag → Fin 8
  | .z => p.z
  | .n => p.n
  | .h => p.h
  | .c => p.c

/-- The position of a flag in the AF word, whose low byte is F (R22, R31). -/
def FlagBits.index (p : FlagBits) (g : Flag) : Fin 16 := ⟨(p.pos g).val, by omega⟩

/-- The four positions are distinct (R6). -/
def FlagBits.distinct (p : FlagBits) : Bool :=
  p.z != p.n && p.z != p.h && p.z != p.c && p.n != p.h && p.n != p.c && p.h != p.c

/-- `flag[g]` (spec/00_scope.md R9). -/
def State.flag (s : State) (g : Flag) : Bool := testBit s.af (s.flagBits.index g)

/-- `flag[g] <- v` (R22, R31): no other bit of AF changes. -/
def State.setFlag (s : State) (g : Flag) (v : Bool) : State :=
  { s with af := if v then setBit s.af (s.flagBits.index g) else unsetBit s.af (s.flagBits.index g) }

/-- The half-carry of the 8-bit ADD, out of the low 4 bits (R201). -/
def halfCarry8 (a b : Byte) : Bool := decide ((a &&& 0x0F#8).toNat + (b &&& 0x0F#8).toNat > 0x0F)

/-- The carry of the 8-bit ADD (R201). -/
def carry8 (a b : Byte) : Bool := decide (a.toNat + b.toNat > 0xFF)

/-- The half-carry of the 16-bit ADD, out of the low 12 bits (R202). -/
def halfCarry16 (a b : Word) : Bool := decide ((a &&& 0x0FFF#16).toNat + (b &&& 0x0FFF#16).toNat > 0x0FFF)

/-- The carry of the 16-bit ADD (R202). -/
def carry16 (a b : Word) : Bool := decide (a.toNat + b.toNat > 0xFFFF)

/-- ADD clears H, C and N before computing (R200). -/
def State.clearHCN (s : State) : State := ((s.setFlag .h false).setFlag .c false).setFlag .n false

/-- Sets a flag when its predicate holds, and leaves it otherwise. -/
def State.raiseFlag (s : State) (g : Flag) (p : Bool) : State := if p then s.setFlag g true else s

/-- The 8-bit branch of ADD, `a` the old destination and `b` the source (R200, R201). Z is set when the stored value is
zero and is never cleared (R203, D4, log 11). -/
def State.add8 (s : State) (r : Reg8) (a b : Byte) : State :=
  let t := (((s.clearHCN.raiseFlag .h (halfCarry8 a b)).raiseFlag .c (carry8 a b))).set8 r (a + b)
  t.raiseFlag .z (t.get8 r == 0#8)

/-- The 16-bit branch of ADD (R200, R202, R203). -/
def State.add16 (s : State) (r : Reg16) (a b : Word) : State :=
  let t := (((s.clearHCN.raiseFlag .h (halfCarry16 a b)).raiseFlag .c (carry16 a b))).set16 r (a + b)
  t.raiseFlag .z (t.get16 r == 0#16)

end Sys2Proof.Machine
end

