-- ==== Sys2Proof/Machine/Operands.lean ====
section
/-! DEFINITION. Operand resolution and narrowing (spec/40_step_and_operands.md R135 to R143, R153). `ia` is the
instruction address (R15, R135). -/
namespace Sys2Proof.Machine

/-- The address a register holds, zero-extended when the register is 8-bit (R137). -/
def State.pointer (s : State) : RegName → Word
  | .word r => s.get16 r
  | .byte r => zext16 (s.get8 r)

/-- The address of the k-th byte after the opcode; it wraps (R143, D10, log 13). -/
def immAddr (ia : Word) (k : Nat) : Word := ia + BitVec.ofNat 16 k

/-- `0xFF00 | n` (R106 (b), R139, C14). -/
def offsetAddr (n : Byte) : Word := Config.offsetBase ||| zext16 n

/-- `resolve(opnd, ia)` (R135): R136 for `reg`, R137 for `deref`, R138, R139, R140 (big-endian) and R141. It answers the
value and the machine, which only "whatever a peripheral read does inside the peripheral" can have changed. -/
def resolve (s : State) (o : Operand) (ia : Word) : Traced (Value × State) :=
  match o with
  | .reg (.byte r) => .pure (.byte (s.get8 r), s)
  | .reg (.word r) => .pure (.word (s.get16 r), s)
  | .deref r => (memRead s (s.pointer r)).bind fun x => .pure (.byte x.1, x.2)
  | .immByte => (memRead s (immAddr ia 1)).bind fun x => .pure (.byte x.1, x.2)
  | .offsetImm =>
    (memRead s (immAddr ia 1)).bind fun n =>
      (memRead n.2 (offsetAddr n.1)).bind fun x => .pure (.byte x.1, x.2)
  | .immWord =>
    (memRead s (immAddr ia 1)).bind fun h =>
      (memRead h.2 (immAddr ia 2)).bind fun l => .pure (.word (wordOf h.1 l.1), l.2)
  | .none => .raise (.illegalInstruction ia)

/-- `expect_byte(v, ia)` (R142). -/
def expectByte (v : Value) (ia : Word) : Traced Byte :=
  match v with
  | .byte b => .pure b
  | .word _ => .raise (.illegalInstruction ia)

/-- `expect_word(v, ia)` (R142). -/
def expectWord (v : Value) (ia : Word) : Traced Word :=
  match v with
  | .word w => .pure w
  | .byte _ => .raise (.illegalInstruction ia)

/-- `resolve_addr(opnd, ia)` (R153, D12, log 14). LD handles `reg` itself; the model gives that unused case the same
fault as the operands without an address. -/
def resolveAddr (s : State) (o : Operand) (ia : Word) : Traced (Word × State) :=
  match o with
  | .deref r => .pure (s.pointer r, s)
  | .offsetImm => (memRead s (immAddr ia 1)).bind fun n => .pure (offsetAddr n.1, n.2)
  | .immByte => .raise (.illegalInstruction ia)
  | .immWord => .raise (.illegalInstruction ia)
  | .none => .raise (.illegalInstruction ia)
  | .reg _ => .raise (.illegalInstruction ia)

/-- LD's destination: a direct register takes the byte, any other destination is resolved to an address and written
through the Bus, with no read there (spec/42_ld.md R175; spec/20_memory.md R89). -/
def storeByte (s : State) (dst : Operand) (v : Byte) (ia : Word) : Traced State :=
  match dst with
  | .reg r => .lift (s.setByte r v)
  | o => (resolveAddr s o ia).bind fun a => memWrite a.2 a.1 v

end Sys2Proof.Machine
end

