-- ==== Sys2Proof/Machine/Engine.lean ====
section
/-! DEFINITION. The execute stage of each operation kind followed by the end of the step (spec/40_step_and_operands.md
R147 to R151, R155): NOP (spec/41_nop.md R170), LD (spec/42_ld.md R175), ADD (spec/43_add.md R200), the placeholder kinds
(spec/44_placeholder_and_invalid.md R220) and the sentinel (R221). Every fallible action precedes every register or flag
write (R151, D9, log 12). No kind orders memory, synchronises, or maintains a cache, and none reads, modifies and writes a
byte of memory: LD never reads its destination and ADD's is a register (spec/20_memory.md R88, R89, R91; log 34). -/
namespace Sys2Proof.Machine

/-- NOP (R170). -/
def runNop (width cycles : Nat) (s : State) : Traced State := finish width cycles s

/-- LD, generic (R175): the source is resolved and narrowed to a byte before the destination is looked at, and what the
destination held is never read (R89). -/
def runLd (dst src : Operand) (width cycles : Nat) (s : State) : Traced State :=
  (resolve s src s.pc).bind fun v =>
    (expectByte v.1 s.pc).bind fun b =>
      (storeByte v.2 dst b s.pc).bind fun t => finish width cycles t

/-- ADD, generic (R200): the destination must be a direct register; the source has its width. It writes no memory, so no
addition is a read-modify-write (R89). -/
def runAdd (dst src : Operand) (width cycles : Nat) (s : State) : Traced State :=
  match dst with
  | .reg (.byte r) =>
    (resolve s src s.pc).bind fun v =>
      (expectByte v.1 s.pc).bind fun b => finish width cycles (v.2.add8 r (s.get8 r) b)
  | .reg (.word r) =>
    (resolve s src s.pc).bind fun v =>
      (expectWord v.1 s.pc).bind fun w => finish width cycles (v.2.add16 r (s.get16 r) w)
  | .deref _ => .raise (.illegalInstruction s.pc)
  | .immByte => .raise (.illegalInstruction s.pc)
  | .offsetImm => .raise (.illegalInstruction s.pc)
  | .immWord => .raise (.illegalInstruction s.pc)
  | .none => .raise (.illegalInstruction s.pc)

/-- A placeholder kind: `raise Unimplemented(ia)` (R220, R234, D14, log 15). No operand byte is read (D32). -/
def runPlaceholder (s : State) : Traced State := .raise (.unimplemented s.pc)

/-- The invalid sentinel: `raise IllegalInstruction(ia)` before any dispatch (R146, R221). -/
def runInvalid (s : State) : Traced State := .raise (.illegalInstruction s.pc)

/-- Steps 3 to 7 of a step for any descriptor (R146 to R149, R155): the sentinel check, the dispatch on the kind, the
advance, the catch-up and the return. -/
def runDescriptor (d : Descriptor) (s : State) : Traced State :=
  match d.kind with
  | .invalid => runInvalid s
  | .nop => runNop d.width d.cycles s
  | .ld => runLd d.dst d.src d.width d.cycles s
  | .add => runAdd d.dst d.src d.width d.cycles s
  | .placeholder _ => runPlaceholder s

end Sys2Proof.Machine
end

