-- ==== Sys2Proof/Machine/Add.lean ====
section
/-! DEFINITION. The ADD family (spec/43_add.md R200 to R208): each instruction is ADD with the operand descriptors, width and cycle
cost of its row of spec/30_encoding.md R112. -/
namespace Sys2Proof.Machine

/-- `ADD HL,BC`, opcode 0x09 (R207). -/
def exec_add_hl_bc (s : State) : Outcome := deliver (runAdd (.reg (.word .hl)) (.reg (.word .bc)) 1 8 s)

/-- `ADD HL,DE`, opcode 0x19 (R207). -/
def exec_add_hl_de (s : State) : Outcome := deliver (runAdd (.reg (.word .hl)) (.reg (.word .de)) 1 8 s)

/-- `ADD HL,HL`, opcode 0x29 (R207). -/
def exec_add_hl_hl (s : State) : Outcome := deliver (runAdd (.reg (.word .hl)) (.reg (.word .hl)) 1 8 s)

/-- `ADD HL,SP`, opcode 0x39 (R207). -/
def exec_add_hl_sp (s : State) : Outcome := deliver (runAdd (.reg (.word .hl)) (.reg (.word .sp)) 1 8 s)

/-- `ADD A,B`, opcode 0x80 (R204). -/
def exec_add_a_b (s : State) : Outcome := deliver (runAdd (.reg (.byte .a)) (.reg (.byte .b)) 1 4 s)

/-- `ADD A,C`, opcode 0x81 (R204). -/
def exec_add_a_c (s : State) : Outcome := deliver (runAdd (.reg (.byte .a)) (.reg (.byte .c)) 1 4 s)

/-- `ADD A,D`, opcode 0x82 (R204). -/
def exec_add_a_d (s : State) : Outcome := deliver (runAdd (.reg (.byte .a)) (.reg (.byte .d)) 1 4 s)

/-- `ADD A,E`, opcode 0x83 (R204). -/
def exec_add_a_e (s : State) : Outcome := deliver (runAdd (.reg (.byte .a)) (.reg (.byte .e)) 1 4 s)

/-- `ADD A,H`, opcode 0x84 (R204). -/
def exec_add_a_h (s : State) : Outcome := deliver (runAdd (.reg (.byte .a)) (.reg (.byte .h)) 1 4 s)

/-- `ADD A,L`, opcode 0x85 (R204). -/
def exec_add_a_l (s : State) : Outcome := deliver (runAdd (.reg (.byte .a)) (.reg (.byte .l)) 1 4 s)

/-- `ADD A,(HL)`, opcode 0x86 (R205). -/
def exec_add_a_mhl (s : State) : Outcome := deliver (runAdd (.reg (.byte .a)) (.deref (.word .hl)) 1 8 s)

/-- `ADD A,A`, opcode 0x87 (R204). -/
def exec_add_a_a (s : State) : Outcome := deliver (runAdd (.reg (.byte .a)) (.reg (.byte .a)) 1 4 s)

/-- `ADD A,d8`, opcode 0xC6 (R206). -/
def exec_add_a_d8 (s : State) : Outcome := deliver (runAdd (.reg (.byte .a)) .immByte 2 8 s)

/-- `ADD SP,e8`, opcode 0xE8 (R208). Always faults. -/
def exec_add_sp_e8 (s : State) : Outcome := deliver (runAdd (.reg (.word .sp)) .immByte 2 16 s)

end Sys2Proof.Machine
end

