-- ==== Sys2Proof/Machine/Invalid.lean ====
section
/-! DEFINITION. The eleven entries of the reserved invalid sentinel (spec/44_placeholder_and_invalid.md R221). -/
namespace Sys2Proof.Machine

/-- `INVALID_D3`, opcode 0xD3 (R221). -/
def exec_invalid_d3 (s : State) : Outcome := deliver (runInvalid s)

/-- `INVALID_DB`, opcode 0xDB (R221). -/
def exec_invalid_db (s : State) : Outcome := deliver (runInvalid s)

/-- `INVALID_DD`, opcode 0xDD (R221). -/
def exec_invalid_dd (s : State) : Outcome := deliver (runInvalid s)

/-- `INVALID_E3`, opcode 0xE3 (R221). -/
def exec_invalid_e3 (s : State) : Outcome := deliver (runInvalid s)

/-- `INVALID_E4`, opcode 0xE4 (R221). -/
def exec_invalid_e4 (s : State) : Outcome := deliver (runInvalid s)

/-- `INVALID_EB`, opcode 0xEB (R221). -/
def exec_invalid_eb (s : State) : Outcome := deliver (runInvalid s)

/-- `INVALID_EC`, opcode 0xEC (R221). -/
def exec_invalid_ec (s : State) : Outcome := deliver (runInvalid s)

/-- `INVALID_ED`, opcode 0xED (R221). -/
def exec_invalid_ed (s : State) : Outcome := deliver (runInvalid s)

/-- `INVALID_F4`, opcode 0xF4 (R221). -/
def exec_invalid_f4 (s : State) : Outcome := deliver (runInvalid s)

/-- `INVALID_FC`, opcode 0xFC (R221). -/
def exec_invalid_fc (s : State) : Outcome := deliver (runInvalid s)

/-- `INVALID_FD`, opcode 0xFD (R221). -/
def exec_invalid_fd (s : State) : Outcome := deliver (runInvalid s)

end Sys2Proof.Machine
end

