-- ==== Sys2Proof/Machine/Ld.lean ====
section
/-! DEFINITION. The LD family (spec/42_ld.md R175 to R188): each instruction is LD with the operand descriptors, width and cycle
cost of its row of spec/30_encoding.md R112. -/
namespace Sys2Proof.Machine

/-- `LD BC,d16`, opcode 0x01 (R187). Always faults. -/
def exec_ld_bc_d16 (s : State) : Outcome := deliver (runLd (.reg (.word .bc)) .immWord 3 12 s)

/-- `LD (BC),A`, opcode 0x02 (R182). -/
def exec_ld_mbc_a (s : State) : Outcome := deliver (runLd (.deref (.word .bc)) (.reg (.byte .a)) 1 8 s)

/-- `LD B,d8`, opcode 0x06 (R179). -/
def exec_ld_b_d8 (s : State) : Outcome := deliver (runLd (.reg (.byte .b)) .immByte 2 8 s)

/-- `LD A,(BC)`, opcode 0x0A (R181). -/
def exec_ld_a_mbc (s : State) : Outcome := deliver (runLd (.reg (.byte .a)) (.deref (.word .bc)) 1 8 s)

/-- `LD C,d8`, opcode 0x0E (R179). -/
def exec_ld_c_d8 (s : State) : Outcome := deliver (runLd (.reg (.byte .c)) .immByte 2 8 s)

/-- `LD DE,d16`, opcode 0x11 (R187). Always faults. -/
def exec_ld_de_d16 (s : State) : Outcome := deliver (runLd (.reg (.word .de)) .immWord 3 12 s)

/-- `LD (DE),A`, opcode 0x12 (R182). -/
def exec_ld_mde_a (s : State) : Outcome := deliver (runLd (.deref (.word .de)) (.reg (.byte .a)) 1 8 s)

/-- `LD D,d8`, opcode 0x16 (R179). -/
def exec_ld_d_d8 (s : State) : Outcome := deliver (runLd (.reg (.byte .d)) .immByte 2 8 s)

/-- `LD A,(DE)`, opcode 0x1A (R181). -/
def exec_ld_a_mde (s : State) : Outcome := deliver (runLd (.reg (.byte .a)) (.deref (.word .de)) 1 8 s)

/-- `LD E,d8`, opcode 0x1E (R179). -/
def exec_ld_e_d8 (s : State) : Outcome := deliver (runLd (.reg (.byte .e)) .immByte 2 8 s)

/-- `LD HL,d16`, opcode 0x21 (R187). Always faults. -/
def exec_ld_hl_d16 (s : State) : Outcome := deliver (runLd (.reg (.word .hl)) .immWord 3 12 s)

/-- `LD H,d8`, opcode 0x26 (R179). -/
def exec_ld_h_d8 (s : State) : Outcome := deliver (runLd (.reg (.byte .h)) .immByte 2 8 s)

/-- `LD L,d8`, opcode 0x2E (R179). -/
def exec_ld_l_d8 (s : State) : Outcome := deliver (runLd (.reg (.byte .l)) .immByte 2 8 s)

/-- `LD SP,d16`, opcode 0x31 (R187). Always faults. -/
def exec_ld_sp_d16 (s : State) : Outcome := deliver (runLd (.reg (.word .sp)) .immWord 3 12 s)

/-- `LD (HL),d8`, opcode 0x36 (R180). -/
def exec_ld_mhl_d8 (s : State) : Outcome := deliver (runLd (.deref (.word .hl)) .immByte 2 12 s)

/-- `LD A,d8`, opcode 0x3E (R179). -/
def exec_ld_a_d8 (s : State) : Outcome := deliver (runLd (.reg (.byte .a)) .immByte 2 8 s)

/-- `LD B,B`, opcode 0x40 (R176). -/
def exec_ld_b_b (s : State) : Outcome := deliver (runLd (.reg (.byte .b)) (.reg (.byte .b)) 1 4 s)

/-- `LD B,C`, opcode 0x41 (R176). -/
def exec_ld_b_c (s : State) : Outcome := deliver (runLd (.reg (.byte .b)) (.reg (.byte .c)) 1 4 s)

/-- `LD B,D`, opcode 0x42 (R176). -/
def exec_ld_b_d (s : State) : Outcome := deliver (runLd (.reg (.byte .b)) (.reg (.byte .d)) 1 4 s)

/-- `LD B,E`, opcode 0x43 (R176). -/
def exec_ld_b_e (s : State) : Outcome := deliver (runLd (.reg (.byte .b)) (.reg (.byte .e)) 1 4 s)

/-- `LD B,H`, opcode 0x44 (R176). -/
def exec_ld_b_h (s : State) : Outcome := deliver (runLd (.reg (.byte .b)) (.reg (.byte .h)) 1 4 s)

/-- `LD B,L`, opcode 0x45 (R176). -/
def exec_ld_b_l (s : State) : Outcome := deliver (runLd (.reg (.byte .b)) (.reg (.byte .l)) 1 4 s)

/-- `LD B,(HL)`, opcode 0x46 (R177). -/
def exec_ld_b_mhl (s : State) : Outcome := deliver (runLd (.reg (.byte .b)) (.deref (.word .hl)) 1 8 s)

/-- `LD B,A`, opcode 0x47 (R176). -/
def exec_ld_b_a (s : State) : Outcome := deliver (runLd (.reg (.byte .b)) (.reg (.byte .a)) 1 4 s)

/-- `LD C,B`, opcode 0x48 (R176). -/
def exec_ld_c_b (s : State) : Outcome := deliver (runLd (.reg (.byte .c)) (.reg (.byte .b)) 1 4 s)

/-- `LD C,C`, opcode 0x49 (R176). -/
def exec_ld_c_c (s : State) : Outcome := deliver (runLd (.reg (.byte .c)) (.reg (.byte .c)) 1 4 s)

/-- `LD C,D`, opcode 0x4A (R176). -/
def exec_ld_c_d (s : State) : Outcome := deliver (runLd (.reg (.byte .c)) (.reg (.byte .d)) 1 4 s)

/-- `LD C,E`, opcode 0x4B (R176). -/
def exec_ld_c_e (s : State) : Outcome := deliver (runLd (.reg (.byte .c)) (.reg (.byte .e)) 1 4 s)

/-- `LD C,H`, opcode 0x4C (R176). -/
def exec_ld_c_h (s : State) : Outcome := deliver (runLd (.reg (.byte .c)) (.reg (.byte .h)) 1 4 s)

/-- `LD C,L`, opcode 0x4D (R176). -/
def exec_ld_c_l (s : State) : Outcome := deliver (runLd (.reg (.byte .c)) (.reg (.byte .l)) 1 4 s)

/-- `LD C,(HL)`, opcode 0x4E (R177). -/
def exec_ld_c_mhl (s : State) : Outcome := deliver (runLd (.reg (.byte .c)) (.deref (.word .hl)) 1 8 s)

/-- `LD C,A`, opcode 0x4F (R176). -/
def exec_ld_c_a (s : State) : Outcome := deliver (runLd (.reg (.byte .c)) (.reg (.byte .a)) 1 4 s)

/-- `LD D,B`, opcode 0x50 (R176). -/
def exec_ld_d_b (s : State) : Outcome := deliver (runLd (.reg (.byte .d)) (.reg (.byte .b)) 1 4 s)

/-- `LD D,C`, opcode 0x51 (R176). -/
def exec_ld_d_c (s : State) : Outcome := deliver (runLd (.reg (.byte .d)) (.reg (.byte .c)) 1 4 s)

/-- `LD D,D`, opcode 0x52 (R176). -/
def exec_ld_d_d (s : State) : Outcome := deliver (runLd (.reg (.byte .d)) (.reg (.byte .d)) 1 4 s)

/-- `LD D,E`, opcode 0x53 (R176). -/
def exec_ld_d_e (s : State) : Outcome := deliver (runLd (.reg (.byte .d)) (.reg (.byte .e)) 1 4 s)

/-- `LD D,H`, opcode 0x54 (R176). -/
def exec_ld_d_h (s : State) : Outcome := deliver (runLd (.reg (.byte .d)) (.reg (.byte .h)) 1 4 s)

/-- `LD D,L`, opcode 0x55 (R176). -/
def exec_ld_d_l (s : State) : Outcome := deliver (runLd (.reg (.byte .d)) (.reg (.byte .l)) 1 4 s)

/-- `LD D,(HL)`, opcode 0x56 (R177). -/
def exec_ld_d_mhl (s : State) : Outcome := deliver (runLd (.reg (.byte .d)) (.deref (.word .hl)) 1 8 s)

/-- `LD D,A`, opcode 0x57 (R176). -/
def exec_ld_d_a (s : State) : Outcome := deliver (runLd (.reg (.byte .d)) (.reg (.byte .a)) 1 4 s)

/-- `LD E,B`, opcode 0x58 (R176). -/
def exec_ld_e_b (s : State) : Outcome := deliver (runLd (.reg (.byte .e)) (.reg (.byte .b)) 1 4 s)

/-- `LD E,C`, opcode 0x59 (R176). -/
def exec_ld_e_c (s : State) : Outcome := deliver (runLd (.reg (.byte .e)) (.reg (.byte .c)) 1 4 s)

/-- `LD E,D`, opcode 0x5A (R176). -/
def exec_ld_e_d (s : State) : Outcome := deliver (runLd (.reg (.byte .e)) (.reg (.byte .d)) 1 4 s)

/-- `LD E,E`, opcode 0x5B (R176). -/
def exec_ld_e_e (s : State) : Outcome := deliver (runLd (.reg (.byte .e)) (.reg (.byte .e)) 1 4 s)

/-- `LD E,H`, opcode 0x5C (R176). -/
def exec_ld_e_h (s : State) : Outcome := deliver (runLd (.reg (.byte .e)) (.reg (.byte .h)) 1 4 s)

/-- `LD E,L`, opcode 0x5D (R176). -/
def exec_ld_e_l (s : State) : Outcome := deliver (runLd (.reg (.byte .e)) (.reg (.byte .l)) 1 4 s)

/-- `LD E,(HL)`, opcode 0x5E (R177). -/
def exec_ld_e_mhl (s : State) : Outcome := deliver (runLd (.reg (.byte .e)) (.deref (.word .hl)) 1 8 s)

/-- `LD E,A`, opcode 0x5F (R176). -/
def exec_ld_e_a (s : State) : Outcome := deliver (runLd (.reg (.byte .e)) (.reg (.byte .a)) 1 4 s)

/-- `LD H,B`, opcode 0x60 (R176). -/
def exec_ld_h_b (s : State) : Outcome := deliver (runLd (.reg (.byte .h)) (.reg (.byte .b)) 1 4 s)

/-- `LD H,C`, opcode 0x61 (R176). -/
def exec_ld_h_c (s : State) : Outcome := deliver (runLd (.reg (.byte .h)) (.reg (.byte .c)) 1 4 s)

/-- `LD H,D`, opcode 0x62 (R176). -/
def exec_ld_h_d (s : State) : Outcome := deliver (runLd (.reg (.byte .h)) (.reg (.byte .d)) 1 4 s)

/-- `LD H,E`, opcode 0x63 (R176). -/
def exec_ld_h_e (s : State) : Outcome := deliver (runLd (.reg (.byte .h)) (.reg (.byte .e)) 1 4 s)

/-- `LD H,H`, opcode 0x64 (R176). -/
def exec_ld_h_h (s : State) : Outcome := deliver (runLd (.reg (.byte .h)) (.reg (.byte .h)) 1 4 s)

/-- `LD H,L`, opcode 0x65 (R176). -/
def exec_ld_h_l (s : State) : Outcome := deliver (runLd (.reg (.byte .h)) (.reg (.byte .l)) 1 4 s)

/-- `LD H,(HL)`, opcode 0x66 (R177). -/
def exec_ld_h_mhl (s : State) : Outcome := deliver (runLd (.reg (.byte .h)) (.deref (.word .hl)) 1 8 s)

/-- `LD H,A`, opcode 0x67 (R176). -/
def exec_ld_h_a (s : State) : Outcome := deliver (runLd (.reg (.byte .h)) (.reg (.byte .a)) 1 4 s)

/-- `LD L,B`, opcode 0x68 (R176). -/
def exec_ld_l_b (s : State) : Outcome := deliver (runLd (.reg (.byte .l)) (.reg (.byte .b)) 1 4 s)

/-- `LD L,C`, opcode 0x69 (R176). -/
def exec_ld_l_c (s : State) : Outcome := deliver (runLd (.reg (.byte .l)) (.reg (.byte .c)) 1 4 s)

/-- `LD L,D`, opcode 0x6A (R176). -/
def exec_ld_l_d (s : State) : Outcome := deliver (runLd (.reg (.byte .l)) (.reg (.byte .d)) 1 4 s)

/-- `LD L,E`, opcode 0x6B (R176). -/
def exec_ld_l_e (s : State) : Outcome := deliver (runLd (.reg (.byte .l)) (.reg (.byte .e)) 1 4 s)

/-- `LD L,H`, opcode 0x6C (R176). -/
def exec_ld_l_h (s : State) : Outcome := deliver (runLd (.reg (.byte .l)) (.reg (.byte .h)) 1 4 s)

/-- `LD L,L`, opcode 0x6D (R176). -/
def exec_ld_l_l (s : State) : Outcome := deliver (runLd (.reg (.byte .l)) (.reg (.byte .l)) 1 4 s)

/-- `LD L,(HL)`, opcode 0x6E (R177). -/
def exec_ld_l_mhl (s : State) : Outcome := deliver (runLd (.reg (.byte .l)) (.deref (.word .hl)) 1 8 s)

/-- `LD L,A`, opcode 0x6F (R176). -/
def exec_ld_l_a (s : State) : Outcome := deliver (runLd (.reg (.byte .l)) (.reg (.byte .a)) 1 4 s)

/-- `LD (HL),B`, opcode 0x70 (R178). -/
def exec_ld_mhl_b (s : State) : Outcome := deliver (runLd (.deref (.word .hl)) (.reg (.byte .b)) 1 8 s)

/-- `LD (HL),C`, opcode 0x71 (R178). -/
def exec_ld_mhl_c (s : State) : Outcome := deliver (runLd (.deref (.word .hl)) (.reg (.byte .c)) 1 8 s)

/-- `LD (HL),D`, opcode 0x72 (R178). -/
def exec_ld_mhl_d (s : State) : Outcome := deliver (runLd (.deref (.word .hl)) (.reg (.byte .d)) 1 8 s)

/-- `LD (HL),E`, opcode 0x73 (R178). -/
def exec_ld_mhl_e (s : State) : Outcome := deliver (runLd (.deref (.word .hl)) (.reg (.byte .e)) 1 8 s)

/-- `LD (HL),H`, opcode 0x74 (R178). -/
def exec_ld_mhl_h (s : State) : Outcome := deliver (runLd (.deref (.word .hl)) (.reg (.byte .h)) 1 8 s)

/-- `LD (HL),L`, opcode 0x75 (R178). -/
def exec_ld_mhl_l (s : State) : Outcome := deliver (runLd (.deref (.word .hl)) (.reg (.byte .l)) 1 8 s)

/-- `LD (HL),A`, opcode 0x77 (R178). -/
def exec_ld_mhl_a (s : State) : Outcome := deliver (runLd (.deref (.word .hl)) (.reg (.byte .a)) 1 8 s)

/-- `LD A,B`, opcode 0x78 (R176). -/
def exec_ld_a_b (s : State) : Outcome := deliver (runLd (.reg (.byte .a)) (.reg (.byte .b)) 1 4 s)

/-- `LD A,C`, opcode 0x79 (R176). -/
def exec_ld_a_c (s : State) : Outcome := deliver (runLd (.reg (.byte .a)) (.reg (.byte .c)) 1 4 s)

/-- `LD A,D`, opcode 0x7A (R176). -/
def exec_ld_a_d (s : State) : Outcome := deliver (runLd (.reg (.byte .a)) (.reg (.byte .d)) 1 4 s)

/-- `LD A,E`, opcode 0x7B (R176). -/
def exec_ld_a_e (s : State) : Outcome := deliver (runLd (.reg (.byte .a)) (.reg (.byte .e)) 1 4 s)

/-- `LD A,H`, opcode 0x7C (R176). -/
def exec_ld_a_h (s : State) : Outcome := deliver (runLd (.reg (.byte .a)) (.reg (.byte .h)) 1 4 s)

/-- `LD A,L`, opcode 0x7D (R176). -/
def exec_ld_a_l (s : State) : Outcome := deliver (runLd (.reg (.byte .a)) (.reg (.byte .l)) 1 4 s)

/-- `LD A,(HL)`, opcode 0x7E (R177). -/
def exec_ld_a_mhl (s : State) : Outcome := deliver (runLd (.reg (.byte .a)) (.deref (.word .hl)) 1 8 s)

/-- `LD A,A`, opcode 0x7F (R176). -/
def exec_ld_a_a (s : State) : Outcome := deliver (runLd (.reg (.byte .a)) (.reg (.byte .a)) 1 4 s)

/-- `LDH (a8),A`, opcode 0xE0 (R183). -/
def exec_ldh_ma8_a (s : State) : Outcome := deliver (runLd .offsetImm (.reg (.byte .a)) 2 12 s)

/-- `LD (C),A`, opcode 0xE2 (R185). -/
def exec_ld_mc_a (s : State) : Outcome := deliver (runLd (.deref (.byte .c)) (.reg (.byte .a)) 1 8 s)

/-- `LDH A,(a8)`, opcode 0xF0 (R184). -/
def exec_ldh_a_ma8 (s : State) : Outcome := deliver (runLd (.reg (.byte .a)) .offsetImm 2 12 s)

/-- `LD A,(C)`, opcode 0xF2 (R186). -/
def exec_ld_a_mc (s : State) : Outcome := deliver (runLd (.reg (.byte .a)) (.deref (.byte .c)) 1 8 s)

/-- `LD SP,HL`, opcode 0xF9 (R188). Always faults. -/
def exec_ld_sp_hl (s : State) : Outcome := deliver (runLd (.reg (.word .sp)) (.reg (.word .hl)) 1 8 s)

end Sys2Proof.Machine
end

