-- ==== Sys2Proof/Machine/Nop.lean ====
section
/-! DEFINITION. The NOP family (spec/41_nop.md R170, R171). -/
namespace Sys2Proof.Machine

/-- `NOP`, opcode 0x00 (R170). -/
def exec_nop (s : State) : Outcome := deliver (runNop 1 4 s)

end Sys2Proof.Machine
end

