-- ==== Sys2Proof/Machine/Placeholder.lean ====
section
/-! DEFINITION. The placeholder kinds (spec/44_placeholder_and_invalid.md R220, R222, R223). The source gives them no behaviour
("undefined behavior when executed"); the spec's outcome is the fault `Unimplemented(ia)` (D14, log 15). They must not
act as NOP, as ADD or as the instruction their names suggest. -/
namespace Sys2Proof.Machine

/-- `INC BC`, opcode 0x03 (R220). -/
def exec_inc_bc (s : State) : Outcome := deliver (runPlaceholder s)

/-- `INC B`, opcode 0x04 (R220). -/
def exec_inc_b (s : State) : Outcome := deliver (runPlaceholder s)

/-- `DEC B`, opcode 0x05 (R220). -/
def exec_dec_b (s : State) : Outcome := deliver (runPlaceholder s)

/-- `RLCA`, opcode 0x07 (R220). -/
def exec_rlca (s : State) : Outcome := deliver (runPlaceholder s)

/-- `LD (a16),SP`, opcode 0x08 (R220). -/
def exec_ld_ma16_sp (s : State) : Outcome := deliver (runPlaceholder s)

/-- `DEC BC`, opcode 0x0B (R220). -/
def exec_dec_bc (s : State) : Outcome := deliver (runPlaceholder s)

/-- `INC C`, opcode 0x0C (R220). -/
def exec_inc_c (s : State) : Outcome := deliver (runPlaceholder s)

/-- `DEC C`, opcode 0x0D (R220). -/
def exec_dec_c (s : State) : Outcome := deliver (runPlaceholder s)

/-- `RRCA`, opcode 0x0F (R220). -/
def exec_rrca (s : State) : Outcome := deliver (runPlaceholder s)

/-- `STOP`, opcode 0x10 (R220). -/
def exec_stop (s : State) : Outcome := deliver (runPlaceholder s)

/-- `INC DE`, opcode 0x13 (R220). -/
def exec_inc_de (s : State) : Outcome := deliver (runPlaceholder s)

/-- `INC D`, opcode 0x14 (R220). -/
def exec_inc_d (s : State) : Outcome := deliver (runPlaceholder s)

/-- `DEC D`, opcode 0x15 (R220). -/
def exec_dec_d (s : State) : Outcome := deliver (runPlaceholder s)

/-- `RLA`, opcode 0x17 (R220). -/
def exec_rla (s : State) : Outcome := deliver (runPlaceholder s)

/-- `JR r8`, opcode 0x18 (R220). -/
def exec_jr_r8 (s : State) : Outcome := deliver (runPlaceholder s)

/-- `DEC DE`, opcode 0x1B (R220). -/
def exec_dec_de (s : State) : Outcome := deliver (runPlaceholder s)

/-- `INC E`, opcode 0x1C (R220). -/
def exec_inc_e (s : State) : Outcome := deliver (runPlaceholder s)

/-- `DEC E`, opcode 0x1D (R220). -/
def exec_dec_e (s : State) : Outcome := deliver (runPlaceholder s)

/-- `RRA`, opcode 0x1F (R220). -/
def exec_rra (s : State) : Outcome := deliver (runPlaceholder s)

/-- `JR NZ,r8`, opcode 0x20 (R220). -/
def exec_jr_nz_r8 (s : State) : Outcome := deliver (runPlaceholder s)

/-- `LD (HL+),A`, opcode 0x22 (R220). -/
def exec_ld_mhli_a (s : State) : Outcome := deliver (runPlaceholder s)

/-- `INC HL`, opcode 0x23 (R220). -/
def exec_inc_hl (s : State) : Outcome := deliver (runPlaceholder s)

/-- `INC H`, opcode 0x24 (R220). -/
def exec_inc_h (s : State) : Outcome := deliver (runPlaceholder s)

/-- `DEC H`, opcode 0x25 (R220). -/
def exec_dec_h (s : State) : Outcome := deliver (runPlaceholder s)

/-- `DAA`, opcode 0x27 (R220). -/
def exec_daa (s : State) : Outcome := deliver (runPlaceholder s)

/-- `JR Z,r8`, opcode 0x28 (R220). -/
def exec_jr_z_r8 (s : State) : Outcome := deliver (runPlaceholder s)

/-- `LD A,(HL+)`, opcode 0x2A (R220). -/
def exec_ld_a_mhli (s : State) : Outcome := deliver (runPlaceholder s)

/-- `DEC HL`, opcode 0x2B (R220). -/
def exec_dec_hl (s : State) : Outcome := deliver (runPlaceholder s)

/-- `INC L`, opcode 0x2C (R220). -/
def exec_inc_l (s : State) : Outcome := deliver (runPlaceholder s)

/-- `DEC L`, opcode 0x2D (R220). -/
def exec_dec_l (s : State) : Outcome := deliver (runPlaceholder s)

/-- `CPL`, opcode 0x2F (R220). -/
def exec_cpl (s : State) : Outcome := deliver (runPlaceholder s)

/-- `JR NC,r8`, opcode 0x30 (R220). -/
def exec_jr_nc_r8 (s : State) : Outcome := deliver (runPlaceholder s)

/-- `LD (HL-),A`, opcode 0x32 (R220). -/
def exec_ld_mhld_a (s : State) : Outcome := deliver (runPlaceholder s)

/-- `INC SP`, opcode 0x33 (R220). -/
def exec_inc_sp (s : State) : Outcome := deliver (runPlaceholder s)

/-- `INC (HL)`, opcode 0x34 (R220). -/
def exec_inc_mhl (s : State) : Outcome := deliver (runPlaceholder s)

/-- `DEC (HL)`, opcode 0x35 (R220). -/
def exec_dec_mhl (s : State) : Outcome := deliver (runPlaceholder s)

/-- `SCF`, opcode 0x37 (R220). -/
def exec_scf (s : State) : Outcome := deliver (runPlaceholder s)

/-- `JR C,r8`, opcode 0x38 (R220). -/
def exec_jr_c_r8 (s : State) : Outcome := deliver (runPlaceholder s)

/-- `LD A,(HL-)`, opcode 0x3A (R220). -/
def exec_ld_a_mhld (s : State) : Outcome := deliver (runPlaceholder s)

/-- `DEC SP`, opcode 0x3B (R220). -/
def exec_dec_sp (s : State) : Outcome := deliver (runPlaceholder s)

/-- `INC A`, opcode 0x3C (R220). -/
def exec_inc_a (s : State) : Outcome := deliver (runPlaceholder s)

/-- `DEC A`, opcode 0x3D (R220). -/
def exec_dec_a (s : State) : Outcome := deliver (runPlaceholder s)

/-- `CCF`, opcode 0x3F (R220). -/
def exec_ccf (s : State) : Outcome := deliver (runPlaceholder s)

/-- `HALT`, opcode 0x76 (R220). -/
def exec_halt (s : State) : Outcome := deliver (runPlaceholder s)

/-- `ADC A,B`, opcode 0x88 (R220). -/
def exec_adc_a_b (s : State) : Outcome := deliver (runPlaceholder s)

/-- `ADC A,C`, opcode 0x89 (R220). -/
def exec_adc_a_c (s : State) : Outcome := deliver (runPlaceholder s)

/-- `ADC A,D`, opcode 0x8A (R220). -/
def exec_adc_a_d (s : State) : Outcome := deliver (runPlaceholder s)

/-- `ADC A,E`, opcode 0x8B (R220). -/
def exec_adc_a_e (s : State) : Outcome := deliver (runPlaceholder s)

/-- `ADC A,H`, opcode 0x8C (R220). -/
def exec_adc_a_h (s : State) : Outcome := deliver (runPlaceholder s)

/-- `ADC A,L`, opcode 0x8D (R220). -/
def exec_adc_a_l (s : State) : Outcome := deliver (runPlaceholder s)

/-- `ADC A,(HL)`, opcode 0x8E (R220). -/
def exec_adc_a_mhl (s : State) : Outcome := deliver (runPlaceholder s)

/-- `ADC A,A`, opcode 0x8F (R220). -/
def exec_adc_a_a (s : State) : Outcome := deliver (runPlaceholder s)

/-- `SUB B`, opcode 0x90 (R220). -/
def exec_sub_b (s : State) : Outcome := deliver (runPlaceholder s)

/-- `SUB C`, opcode 0x91 (R220). -/
def exec_sub_c (s : State) : Outcome := deliver (runPlaceholder s)

/-- `SUB D`, opcode 0x92 (R220). -/
def exec_sub_d (s : State) : Outcome := deliver (runPlaceholder s)

/-- `SUB E`, opcode 0x93 (R220). -/
def exec_sub_e (s : State) : Outcome := deliver (runPlaceholder s)

/-- `SUB H`, opcode 0x94 (R220). -/
def exec_sub_h (s : State) : Outcome := deliver (runPlaceholder s)

/-- `SUB L`, opcode 0x95 (R220). -/
def exec_sub_l (s : State) : Outcome := deliver (runPlaceholder s)

/-- `SUB (HL)`, opcode 0x96 (R220). -/
def exec_sub_mhl (s : State) : Outcome := deliver (runPlaceholder s)

/-- `SUB A`, opcode 0x97 (R220). -/
def exec_sub_a (s : State) : Outcome := deliver (runPlaceholder s)

/-- `SBC A,B`, opcode 0x98 (R220). -/
def exec_sbc_a_b (s : State) : Outcome := deliver (runPlaceholder s)

/-- `SBC A,C`, opcode 0x99 (R220). -/
def exec_sbc_a_c (s : State) : Outcome := deliver (runPlaceholder s)

/-- `SBC A,D`, opcode 0x9A (R220). -/
def exec_sbc_a_d (s : State) : Outcome := deliver (runPlaceholder s)

/-- `SBC A,E`, opcode 0x9B (R220). -/
def exec_sbc_a_e (s : State) : Outcome := deliver (runPlaceholder s)

/-- `SBC A,H`, opcode 0x9C (R220). -/
def exec_sbc_a_h (s : State) : Outcome := deliver (runPlaceholder s)

/-- `SBC A,L`, opcode 0x9D (R220). -/
def exec_sbc_a_l (s : State) : Outcome := deliver (runPlaceholder s)

/-- `SBC A,(HL)`, opcode 0x9E (R220). -/
def exec_sbc_a_mhl (s : State) : Outcome := deliver (runPlaceholder s)

/-- `SBC A,A`, opcode 0x9F (R220). -/
def exec_sbc_a_a (s : State) : Outcome := deliver (runPlaceholder s)

/-- `AND B`, opcode 0xA0 (R220). -/
def exec_and_b (s : State) : Outcome := deliver (runPlaceholder s)

/-- `AND C`, opcode 0xA1 (R220). -/
def exec_and_c (s : State) : Outcome := deliver (runPlaceholder s)

/-- `AND D`, opcode 0xA2 (R220). -/
def exec_and_d (s : State) : Outcome := deliver (runPlaceholder s)

/-- `AND E`, opcode 0xA3 (R220). -/
def exec_and_e (s : State) : Outcome := deliver (runPlaceholder s)

/-- `AND H`, opcode 0xA4 (R220). -/
def exec_and_h (s : State) : Outcome := deliver (runPlaceholder s)

/-- `AND L`, opcode 0xA5 (R220). -/
def exec_and_l (s : State) : Outcome := deliver (runPlaceholder s)

/-- `AND (HL)`, opcode 0xA6 (R220). -/
def exec_and_mhl (s : State) : Outcome := deliver (runPlaceholder s)

/-- `AND A`, opcode 0xA7 (R220). -/
def exec_and_a (s : State) : Outcome := deliver (runPlaceholder s)

/-- `XOR B`, opcode 0xA8 (R220). -/
def exec_xor_b (s : State) : Outcome := deliver (runPlaceholder s)

/-- `XOR C`, opcode 0xA9 (R220). -/
def exec_xor_c (s : State) : Outcome := deliver (runPlaceholder s)

/-- `XOR D`, opcode 0xAA (R220). -/
def exec_xor_d (s : State) : Outcome := deliver (runPlaceholder s)

/-- `XOR E`, opcode 0xAB (R220). -/
def exec_xor_e (s : State) : Outcome := deliver (runPlaceholder s)

/-- `XOR H`, opcode 0xAC (R220). -/
def exec_xor_h (s : State) : Outcome := deliver (runPlaceholder s)

/-- `XOR L`, opcode 0xAD (R220). -/
def exec_xor_l (s : State) : Outcome := deliver (runPlaceholder s)

/-- `XOR (HL)`, opcode 0xAE (R220). -/
def exec_xor_mhl (s : State) : Outcome := deliver (runPlaceholder s)

/-- `XOR A`, opcode 0xAF (R220). -/
def exec_xor_a (s : State) : Outcome := deliver (runPlaceholder s)

/-- `OR B`, opcode 0xB0 (R220). -/
def exec_or_b (s : State) : Outcome := deliver (runPlaceholder s)

/-- `OR C`, opcode 0xB1 (R220). -/
def exec_or_c (s : State) : Outcome := deliver (runPlaceholder s)

/-- `OR D`, opcode 0xB2 (R220). -/
def exec_or_d (s : State) : Outcome := deliver (runPlaceholder s)

/-- `OR E`, opcode 0xB3 (R220). -/
def exec_or_e (s : State) : Outcome := deliver (runPlaceholder s)

/-- `OR H`, opcode 0xB4 (R220). -/
def exec_or_h (s : State) : Outcome := deliver (runPlaceholder s)

/-- `OR L`, opcode 0xB5 (R220). -/
def exec_or_l (s : State) : Outcome := deliver (runPlaceholder s)

/-- `OR (HL)`, opcode 0xB6 (R220). -/
def exec_or_mhl (s : State) : Outcome := deliver (runPlaceholder s)

/-- `OR A`, opcode 0xB7 (R220). -/
def exec_or_a (s : State) : Outcome := deliver (runPlaceholder s)

/-- `CP B`, opcode 0xB8 (R220). -/
def exec_cp_b (s : State) : Outcome := deliver (runPlaceholder s)

/-- `CP C`, opcode 0xB9 (R220). -/
def exec_cp_c (s : State) : Outcome := deliver (runPlaceholder s)

/-- `CP D`, opcode 0xBA (R220). -/
def exec_cp_d (s : State) : Outcome := deliver (runPlaceholder s)

/-- `CP E`, opcode 0xBB (R220). -/
def exec_cp_e (s : State) : Outcome := deliver (runPlaceholder s)

/-- `CP H`, opcode 0xBC (R220). -/
def exec_cp_h (s : State) : Outcome := deliver (runPlaceholder s)

/-- `CP L`, opcode 0xBD (R220). -/
def exec_cp_l (s : State) : Outcome := deliver (runPlaceholder s)

/-- `CP (HL)`, opcode 0xBE (R220). -/
def exec_cp_mhl (s : State) : Outcome := deliver (runPlaceholder s)

/-- `CP A`, opcode 0xBF (R220). -/
def exec_cp_a (s : State) : Outcome := deliver (runPlaceholder s)

/-- `RET NZ`, opcode 0xC0 (R220). -/
def exec_ret_nz (s : State) : Outcome := deliver (runPlaceholder s)

/-- `POP BC`, opcode 0xC1 (R220). -/
def exec_pop_bc (s : State) : Outcome := deliver (runPlaceholder s)

/-- `JP NZ,a16`, opcode 0xC2 (R220). -/
def exec_jp_nz_a16 (s : State) : Outcome := deliver (runPlaceholder s)

/-- `JP a16`, opcode 0xC3 (R220). -/
def exec_jp_a16 (s : State) : Outcome := deliver (runPlaceholder s)

/-- `CALL NZ,a16`, opcode 0xC4 (R220). -/
def exec_call_nz_a16 (s : State) : Outcome := deliver (runPlaceholder s)

/-- `PUSH BC`, opcode 0xC5 (R220). -/
def exec_push_bc (s : State) : Outcome := deliver (runPlaceholder s)

/-- `RST 00H`, opcode 0xC7 (R220). -/
def exec_rst_00h (s : State) : Outcome := deliver (runPlaceholder s)

/-- `RET Z`, opcode 0xC8 (R220). -/
def exec_ret_z (s : State) : Outcome := deliver (runPlaceholder s)

/-- `RET`, opcode 0xC9 (R220). -/
def exec_ret (s : State) : Outcome := deliver (runPlaceholder s)

/-- `JP Z,a16`, opcode 0xCA (R220). -/
def exec_jp_z_a16 (s : State) : Outcome := deliver (runPlaceholder s)

/-- `PREFIX CB`, opcode 0xCB (R220). -/
def exec_prefix_cb (s : State) : Outcome := deliver (runPlaceholder s)

/-- `CALL Z,a16`, opcode 0xCC (R220). -/
def exec_call_z_a16 (s : State) : Outcome := deliver (runPlaceholder s)

/-- `CALL a16`, opcode 0xCD (R220). -/
def exec_call_a16 (s : State) : Outcome := deliver (runPlaceholder s)

/-- `ADC A,d8`, opcode 0xCE (R220). -/
def exec_adc_a_d8 (s : State) : Outcome := deliver (runPlaceholder s)

/-- `RST 08H`, opcode 0xCF (R220). -/
def exec_rst_08h (s : State) : Outcome := deliver (runPlaceholder s)

/-- `RET NC`, opcode 0xD0 (R220). -/
def exec_ret_nc (s : State) : Outcome := deliver (runPlaceholder s)

/-- `POP DE`, opcode 0xD1 (R220). -/
def exec_pop_de (s : State) : Outcome := deliver (runPlaceholder s)

/-- `JP NC,a16`, opcode 0xD2 (R220). -/
def exec_jp_nc_a16 (s : State) : Outcome := deliver (runPlaceholder s)

/-- `CALL NC,a16`, opcode 0xD4 (R220). -/
def exec_call_nc_a16 (s : State) : Outcome := deliver (runPlaceholder s)

/-- `PUSH DE`, opcode 0xD5 (R220). -/
def exec_push_de (s : State) : Outcome := deliver (runPlaceholder s)

/-- `SUB d8`, opcode 0xD6 (R220). -/
def exec_sub_d8 (s : State) : Outcome := deliver (runPlaceholder s)

/-- `RST 10H`, opcode 0xD7 (R220). -/
def exec_rst_10h (s : State) : Outcome := deliver (runPlaceholder s)

/-- `RET C`, opcode 0xD8 (R220). -/
def exec_ret_c (s : State) : Outcome := deliver (runPlaceholder s)

/-- `RETI`, opcode 0xD9 (R220). -/
def exec_reti (s : State) : Outcome := deliver (runPlaceholder s)

/-- `JP C,a16`, opcode 0xDA (R220). -/
def exec_jp_c_a16 (s : State) : Outcome := deliver (runPlaceholder s)

/-- `CALL C,a16`, opcode 0xDC (R220). -/
def exec_call_c_a16 (s : State) : Outcome := deliver (runPlaceholder s)

/-- `SBC A,d8`, opcode 0xDE (R220). -/
def exec_sbc_a_d8 (s : State) : Outcome := deliver (runPlaceholder s)

/-- `RST 18H`, opcode 0xDF (R220). -/
def exec_rst_18h (s : State) : Outcome := deliver (runPlaceholder s)

/-- `POP HL`, opcode 0xE1 (R220). -/
def exec_pop_hl (s : State) : Outcome := deliver (runPlaceholder s)

/-- `PUSH HL`, opcode 0xE5 (R220). -/
def exec_push_hl (s : State) : Outcome := deliver (runPlaceholder s)

/-- `AND d8`, opcode 0xE6 (R220). -/
def exec_and_d8 (s : State) : Outcome := deliver (runPlaceholder s)

/-- `RST 20H`, opcode 0xE7 (R220). -/
def exec_rst_20h (s : State) : Outcome := deliver (runPlaceholder s)

/-- `JP (HL)`, opcode 0xE9 (R220). -/
def exec_jp_mhl (s : State) : Outcome := deliver (runPlaceholder s)

/-- `LD (a16),A`, opcode 0xEA (R220). -/
def exec_ld_ma16_a (s : State) : Outcome := deliver (runPlaceholder s)

/-- `XOR d8`, opcode 0xEE (R220). -/
def exec_xor_d8 (s : State) : Outcome := deliver (runPlaceholder s)

/-- `RST 28H`, opcode 0xEF (R220). -/
def exec_rst_28h (s : State) : Outcome := deliver (runPlaceholder s)

/-- `POP AF`, opcode 0xF1 (R220). -/
def exec_pop_af (s : State) : Outcome := deliver (runPlaceholder s)

/-- `DI`, opcode 0xF3 (R220). -/
def exec_di (s : State) : Outcome := deliver (runPlaceholder s)

/-- `PUSH AF`, opcode 0xF5 (R220). -/
def exec_push_af (s : State) : Outcome := deliver (runPlaceholder s)

/-- `OR d8`, opcode 0xF6 (R220). -/
def exec_or_d8 (s : State) : Outcome := deliver (runPlaceholder s)

/-- `RST 30H`, opcode 0xF7 (R220). -/
def exec_rst_30h (s : State) : Outcome := deliver (runPlaceholder s)

/-- `LD HL,SP+e8`, opcode 0xF8 (R220). -/
def exec_ld_hl_sp_e8 (s : State) : Outcome := deliver (runPlaceholder s)

/-- `LD A,(a16)`, opcode 0xFA (R220). -/
def exec_ld_a_ma16 (s : State) : Outcome := deliver (runPlaceholder s)

/-- `EI`, opcode 0xFB (R220). -/
def exec_ei (s : State) : Outcome := deliver (runPlaceholder s)

/-- `CP d8`, opcode 0xFE (R220). -/
def exec_cp_d8 (s : State) : Outcome := deliver (runPlaceholder s)

/-- `RST 38H`, opcode 0xFF (R220). -/
def exec_rst_38h (s : State) : Outcome := deliver (runPlaceholder s)

end Sys2Proof.Machine
end

