-- ==== Sys2Proof/Machine/Dispatch.lean ====
section
/-! DEFINITION. The dispatch: one arm per instruction (spec/40_step_and_operands.md R147). -/
namespace Sys2Proof.Machine

def exec (i : Instr) (s : State) : Host.Outcome State Fault Refusal :=
  match i with
  | .nop => Sys2Proof.Machine.exec_nop s
  | .ld_bc_d16 => Sys2Proof.Machine.exec_ld_bc_d16 s
  | .ld_mbc_a => Sys2Proof.Machine.exec_ld_mbc_a s
  | .inc_bc => Sys2Proof.Machine.exec_inc_bc s
  | .inc_b => Sys2Proof.Machine.exec_inc_b s
  | .dec_b => Sys2Proof.Machine.exec_dec_b s
  | .ld_b_d8 => Sys2Proof.Machine.exec_ld_b_d8 s
  | .rlca => Sys2Proof.Machine.exec_rlca s
  | .ld_ma16_sp => Sys2Proof.Machine.exec_ld_ma16_sp s
  | .add_hl_bc => Sys2Proof.Machine.exec_add_hl_bc s
  | .ld_a_mbc => Sys2Proof.Machine.exec_ld_a_mbc s
  | .dec_bc => Sys2Proof.Machine.exec_dec_bc s
  | .inc_c => Sys2Proof.Machine.exec_inc_c s
  | .dec_c => Sys2Proof.Machine.exec_dec_c s
  | .ld_c_d8 => Sys2Proof.Machine.exec_ld_c_d8 s
  | .rrca => Sys2Proof.Machine.exec_rrca s
  | .stop => Sys2Proof.Machine.exec_stop s
  | .ld_de_d16 => Sys2Proof.Machine.exec_ld_de_d16 s
  | .ld_mde_a => Sys2Proof.Machine.exec_ld_mde_a s
  | .inc_de => Sys2Proof.Machine.exec_inc_de s
  | .inc_d => Sys2Proof.Machine.exec_inc_d s
  | .dec_d => Sys2Proof.Machine.exec_dec_d s
  | .ld_d_d8 => Sys2Proof.Machine.exec_ld_d_d8 s
  | .rla => Sys2Proof.Machine.exec_rla s
  | .jr_r8 => Sys2Proof.Machine.exec_jr_r8 s
  | .add_hl_de => Sys2Proof.Machine.exec_add_hl_de s
  | .ld_a_mde => Sys2Proof.Machine.exec_ld_a_mde s
  | .dec_de => Sys2Proof.Machine.exec_dec_de s
  | .inc_e => Sys2Proof.Machine.exec_inc_e s
  | .dec_e => Sys2Proof.Machine.exec_dec_e s
  | .ld_e_d8 => Sys2Proof.Machine.exec_ld_e_d8 s
  | .rra => Sys2Proof.Machine.exec_rra s
  | .jr_nz_r8 => Sys2Proof.Machine.exec_jr_nz_r8 s
  | .ld_hl_d16 => Sys2Proof.Machine.exec_ld_hl_d16 s
  | .ld_mhli_a => Sys2Proof.Machine.exec_ld_mhli_a s
  | .inc_hl => Sys2Proof.Machine.exec_inc_hl s
  | .inc_h => Sys2Proof.Machine.exec_inc_h s
  | .dec_h => Sys2Proof.Machine.exec_dec_h s
  | .ld_h_d8 => Sys2Proof.Machine.exec_ld_h_d8 s
  | .daa => Sys2Proof.Machine.exec_daa s
  | .jr_z_r8 => Sys2Proof.Machine.exec_jr_z_r8 s
  | .add_hl_hl => Sys2Proof.Machine.exec_add_hl_hl s
  | .ld_a_mhli => Sys2Proof.Machine.exec_ld_a_mhli s
  | .dec_hl => Sys2Proof.Machine.exec_dec_hl s
  | .inc_l => Sys2Proof.Machine.exec_inc_l s
  | .dec_l => Sys2Proof.Machine.exec_dec_l s
  | .ld_l_d8 => Sys2Proof.Machine.exec_ld_l_d8 s
  | .cpl => Sys2Proof.Machine.exec_cpl s
  | .jr_nc_r8 => Sys2Proof.Machine.exec_jr_nc_r8 s
  | .ld_sp_d16 => Sys2Proof.Machine.exec_ld_sp_d16 s
  | .ld_mhld_a => Sys2Proof.Machine.exec_ld_mhld_a s
  | .inc_sp => Sys2Proof.Machine.exec_inc_sp s
  | .inc_mhl => Sys2Proof.Machine.exec_inc_mhl s
  | .dec_mhl => Sys2Proof.Machine.exec_dec_mhl s
  | .ld_mhl_d8 => Sys2Proof.Machine.exec_ld_mhl_d8 s
  | .scf => Sys2Proof.Machine.exec_scf s
  | .jr_c_r8 => Sys2Proof.Machine.exec_jr_c_r8 s
  | .add_hl_sp => Sys2Proof.Machine.exec_add_hl_sp s
  | .ld_a_mhld => Sys2Proof.Machine.exec_ld_a_mhld s
  | .dec_sp => Sys2Proof.Machine.exec_dec_sp s
  | .inc_a => Sys2Proof.Machine.exec_inc_a s
  | .dec_a => Sys2Proof.Machine.exec_dec_a s
  | .ld_a_d8 => Sys2Proof.Machine.exec_ld_a_d8 s
  | .ccf => Sys2Proof.Machine.exec_ccf s
  | .ld_b_b => Sys2Proof.Machine.exec_ld_b_b s
  | .ld_b_c => Sys2Proof.Machine.exec_ld_b_c s
  | .ld_b_d => Sys2Proof.Machine.exec_ld_b_d s
  | .ld_b_e => Sys2Proof.Machine.exec_ld_b_e s
  | .ld_b_h => Sys2Proof.Machine.exec_ld_b_h s
  | .ld_b_l => Sys2Proof.Machine.exec_ld_b_l s
  | .ld_b_mhl => Sys2Proof.Machine.exec_ld_b_mhl s
  | .ld_b_a => Sys2Proof.Machine.exec_ld_b_a s
  | .ld_c_b => Sys2Proof.Machine.exec_ld_c_b s
  | .ld_c_c => Sys2Proof.Machine.exec_ld_c_c s
  | .ld_c_d => Sys2Proof.Machine.exec_ld_c_d s
  | .ld_c_e => Sys2Proof.Machine.exec_ld_c_e s
  | .ld_c_h => Sys2Proof.Machine.exec_ld_c_h s
  | .ld_c_l => Sys2Proof.Machine.exec_ld_c_l s
  | .ld_c_mhl => Sys2Proof.Machine.exec_ld_c_mhl s
  | .ld_c_a => Sys2Proof.Machine.exec_ld_c_a s
  | .ld_d_b => Sys2Proof.Machine.exec_ld_d_b s
  | .ld_d_c => Sys2Proof.Machine.exec_ld_d_c s
  | .ld_d_d => Sys2Proof.Machine.exec_ld_d_d s
  | .ld_d_e => Sys2Proof.Machine.exec_ld_d_e s
  | .ld_d_h => Sys2Proof.Machine.exec_ld_d_h s
  | .ld_d_l => Sys2Proof.Machine.exec_ld_d_l s
  | .ld_d_mhl => Sys2Proof.Machine.exec_ld_d_mhl s
  | .ld_d_a => Sys2Proof.Machine.exec_ld_d_a s
  | .ld_e_b => Sys2Proof.Machine.exec_ld_e_b s
  | .ld_e_c => Sys2Proof.Machine.exec_ld_e_c s
  | .ld_e_d => Sys2Proof.Machine.exec_ld_e_d s
  | .ld_e_e => Sys2Proof.Machine.exec_ld_e_e s
  | .ld_e_h => Sys2Proof.Machine.exec_ld_e_h s
  | .ld_e_l => Sys2Proof.Machine.exec_ld_e_l s
  | .ld_e_mhl => Sys2Proof.Machine.exec_ld_e_mhl s
  | .ld_e_a => Sys2Proof.Machine.exec_ld_e_a s
  | .ld_h_b => Sys2Proof.Machine.exec_ld_h_b s
  | .ld_h_c => Sys2Proof.Machine.exec_ld_h_c s
  | .ld_h_d => Sys2Proof.Machine.exec_ld_h_d s
  | .ld_h_e => Sys2Proof.Machine.exec_ld_h_e s
  | .ld_h_h => Sys2Proof.Machine.exec_ld_h_h s
  | .ld_h_l => Sys2Proof.Machine.exec_ld_h_l s
  | .ld_h_mhl => Sys2Proof.Machine.exec_ld_h_mhl s
  | .ld_h_a => Sys2Proof.Machine.exec_ld_h_a s
  | .ld_l_b => Sys2Proof.Machine.exec_ld_l_b s
  | .ld_l_c => Sys2Proof.Machine.exec_ld_l_c s
  | .ld_l_d => Sys2Proof.Machine.exec_ld_l_d s
  | .ld_l_e => Sys2Proof.Machine.exec_ld_l_e s
  | .ld_l_h => Sys2Proof.Machine.exec_ld_l_h s
  | .ld_l_l => Sys2Proof.Machine.exec_ld_l_l s
  | .ld_l_mhl => Sys2Proof.Machine.exec_ld_l_mhl s
  | .ld_l_a => Sys2Proof.Machine.exec_ld_l_a s
  | .ld_mhl_b => Sys2Proof.Machine.exec_ld_mhl_b s
  | .ld_mhl_c => Sys2Proof.Machine.exec_ld_mhl_c s
  | .ld_mhl_d => Sys2Proof.Machine.exec_ld_mhl_d s
  | .ld_mhl_e => Sys2Proof.Machine.exec_ld_mhl_e s
  | .ld_mhl_h => Sys2Proof.Machine.exec_ld_mhl_h s
  | .ld_mhl_l => Sys2Proof.Machine.exec_ld_mhl_l s
  | .halt => Sys2Proof.Machine.exec_halt s
  | .ld_mhl_a => Sys2Proof.Machine.exec_ld_mhl_a s
  | .ld_a_b => Sys2Proof.Machine.exec_ld_a_b s
  | .ld_a_c => Sys2Proof.Machine.exec_ld_a_c s
  | .ld_a_d => Sys2Proof.Machine.exec_ld_a_d s
  | .ld_a_e => Sys2Proof.Machine.exec_ld_a_e s
  | .ld_a_h => Sys2Proof.Machine.exec_ld_a_h s
  | .ld_a_l => Sys2Proof.Machine.exec_ld_a_l s
  | .ld_a_mhl => Sys2Proof.Machine.exec_ld_a_mhl s
  | .ld_a_a => Sys2Proof.Machine.exec_ld_a_a s
  | .add_a_b => Sys2Proof.Machine.exec_add_a_b s
  | .add_a_c => Sys2Proof.Machine.exec_add_a_c s
  | .add_a_d => Sys2Proof.Machine.exec_add_a_d s
  | .add_a_e => Sys2Proof.Machine.exec_add_a_e s
  | .add_a_h => Sys2Proof.Machine.exec_add_a_h s
  | .add_a_l => Sys2Proof.Machine.exec_add_a_l s
  | .add_a_mhl => Sys2Proof.Machine.exec_add_a_mhl s
  | .add_a_a => Sys2Proof.Machine.exec_add_a_a s
  | .adc_a_b => Sys2Proof.Machine.exec_adc_a_b s
  | .adc_a_c => Sys2Proof.Machine.exec_adc_a_c s
  | .adc_a_d => Sys2Proof.Machine.exec_adc_a_d s
  | .adc_a_e => Sys2Proof.Machine.exec_adc_a_e s
  | .adc_a_h => Sys2Proof.Machine.exec_adc_a_h s
  | .adc_a_l => Sys2Proof.Machine.exec_adc_a_l s
  | .adc_a_mhl => Sys2Proof.Machine.exec_adc_a_mhl s
  | .adc_a_a => Sys2Proof.Machine.exec_adc_a_a s
  | .sub_b => Sys2Proof.Machine.exec_sub_b s
  | .sub_c => Sys2Proof.Machine.exec_sub_c s
  | .sub_d => Sys2Proof.Machine.exec_sub_d s
  | .sub_e => Sys2Proof.Machine.exec_sub_e s
  | .sub_h => Sys2Proof.Machine.exec_sub_h s
  | .sub_l => Sys2Proof.Machine.exec_sub_l s
  | .sub_mhl => Sys2Proof.Machine.exec_sub_mhl s
  | .sub_a => Sys2Proof.Machine.exec_sub_a s
  | .sbc_a_b => Sys2Proof.Machine.exec_sbc_a_b s
  | .sbc_a_c => Sys2Proof.Machine.exec_sbc_a_c s
  | .sbc_a_d => Sys2Proof.Machine.exec_sbc_a_d s
  | .sbc_a_e => Sys2Proof.Machine.exec_sbc_a_e s
  | .sbc_a_h => Sys2Proof.Machine.exec_sbc_a_h s
  | .sbc_a_l => Sys2Proof.Machine.exec_sbc_a_l s
  | .sbc_a_mhl => Sys2Proof.Machine.exec_sbc_a_mhl s
  | .sbc_a_a => Sys2Proof.Machine.exec_sbc_a_a s
  | .and_b => Sys2Proof.Machine.exec_and_b s
  | .and_c => Sys2Proof.Machine.exec_and_c s
  | .and_d => Sys2Proof.Machine.exec_and_d s
  | .and_e => Sys2Proof.Machine.exec_and_e s
  | .and_h => Sys2Proof.Machine.exec_and_h s
  | .and_l => Sys2Proof.Machine.exec_and_l s
  | .and_mhl => Sys2Proof.Machine.exec_and_mhl s
  | .and_a => Sys2Proof.Machine.exec_and_a s
  | .xor_b => Sys2Proof.Machine.exec_xor_b s
  | .xor_c => Sys2Proof.Machine.exec_xor_c s
  | .xor_d => Sys2Proof.Machine.exec_xor_d s
  | .xor_e => Sys2Proof.Machine.exec_xor_e s
  | .xor_h => Sys2Proof.Machine.exec_xor_h s
  | .xor_l => Sys2Proof.Machine.exec_xor_l s
  | .xor_mhl => Sys2Proof.Machine.exec_xor_mhl s
  | .xor_a => Sys2Proof.Machine.exec_xor_a s
  | .or_b => Sys2Proof.Machine.exec_or_b s
  | .or_c => Sys2Proof.Machine.exec_or_c s
  | .or_d => Sys2Proof.Machine.exec_or_d s
  | .or_e => Sys2Proof.Machine.exec_or_e s
  | .or_h => Sys2Proof.Machine.exec_or_h s
  | .or_l => Sys2Proof.Machine.exec_or_l s
  | .or_mhl => Sys2Proof.Machine.exec_or_mhl s
  | .or_a => Sys2Proof.Machine.exec_or_a s
  | .cp_b => Sys2Proof.Machine.exec_cp_b s
  | .cp_c => Sys2Proof.Machine.exec_cp_c s
  | .cp_d => Sys2Proof.Machine.exec_cp_d s
  | .cp_e => Sys2Proof.Machine.exec_cp_e s
  | .cp_h => Sys2Proof.Machine.exec_cp_h s
  | .cp_l => Sys2Proof.Machine.exec_cp_l s
  | .cp_mhl => Sys2Proof.Machine.exec_cp_mhl s
  | .cp_a => Sys2Proof.Machine.exec_cp_a s
  | .ret_nz => Sys2Proof.Machine.exec_ret_nz s
  | .pop_bc => Sys2Proof.Machine.exec_pop_bc s
  | .jp_nz_a16 => Sys2Proof.Machine.exec_jp_nz_a16 s
  | .jp_a16 => Sys2Proof.Machine.exec_jp_a16 s
  | .call_nz_a16 => Sys2Proof.Machine.exec_call_nz_a16 s
  | .push_bc => Sys2Proof.Machine.exec_push_bc s
  | .add_a_d8 => Sys2Proof.Machine.exec_add_a_d8 s
  | .rst_00h => Sys2Proof.Machine.exec_rst_00h s
  | .ret_z => Sys2Proof.Machine.exec_ret_z s
  | .ret => Sys2Proof.Machine.exec_ret s
  | .jp_z_a16 => Sys2Proof.Machine.exec_jp_z_a16 s
  | .prefix_cb => Sys2Proof.Machine.exec_prefix_cb s
  | .call_z_a16 => Sys2Proof.Machine.exec_call_z_a16 s
  | .call_a16 => Sys2Proof.Machine.exec_call_a16 s
  | .adc_a_d8 => Sys2Proof.Machine.exec_adc_a_d8 s
  | .rst_08h => Sys2Proof.Machine.exec_rst_08h s
  | .ret_nc => Sys2Proof.Machine.exec_ret_nc s
  | .pop_de => Sys2Proof.Machine.exec_pop_de s
  | .jp_nc_a16 => Sys2Proof.Machine.exec_jp_nc_a16 s
  | .invalid_d3 => Sys2Proof.Machine.exec_invalid_d3 s
  | .call_nc_a16 => Sys2Proof.Machine.exec_call_nc_a16 s
  | .push_de => Sys2Proof.Machine.exec_push_de s
  | .sub_d8 => Sys2Proof.Machine.exec_sub_d8 s
  | .rst_10h => Sys2Proof.Machine.exec_rst_10h s
  | .ret_c => Sys2Proof.Machine.exec_ret_c s
  | .reti => Sys2Proof.Machine.exec_reti s
  | .jp_c_a16 => Sys2Proof.Machine.exec_jp_c_a16 s
  | .invalid_db => Sys2Proof.Machine.exec_invalid_db s
  | .call_c_a16 => Sys2Proof.Machine.exec_call_c_a16 s
  | .invalid_dd => Sys2Proof.Machine.exec_invalid_dd s
  | .sbc_a_d8 => Sys2Proof.Machine.exec_sbc_a_d8 s
  | .rst_18h => Sys2Proof.Machine.exec_rst_18h s
  | .ldh_ma8_a => Sys2Proof.Machine.exec_ldh_ma8_a s
  | .pop_hl => Sys2Proof.Machine.exec_pop_hl s
  | .ld_mc_a => Sys2Proof.Machine.exec_ld_mc_a s
  | .invalid_e3 => Sys2Proof.Machine.exec_invalid_e3 s
  | .invalid_e4 => Sys2Proof.Machine.exec_invalid_e4 s
  | .push_hl => Sys2Proof.Machine.exec_push_hl s
  | .and_d8 => Sys2Proof.Machine.exec_and_d8 s
  | .rst_20h => Sys2Proof.Machine.exec_rst_20h s
  | .add_sp_e8 => Sys2Proof.Machine.exec_add_sp_e8 s
  | .jp_mhl => Sys2Proof.Machine.exec_jp_mhl s
  | .ld_ma16_a => Sys2Proof.Machine.exec_ld_ma16_a s
  | .invalid_eb => Sys2Proof.Machine.exec_invalid_eb s
  | .invalid_ec => Sys2Proof.Machine.exec_invalid_ec s
  | .invalid_ed => Sys2Proof.Machine.exec_invalid_ed s
  | .xor_d8 => Sys2Proof.Machine.exec_xor_d8 s
  | .rst_28h => Sys2Proof.Machine.exec_rst_28h s
  | .ldh_a_ma8 => Sys2Proof.Machine.exec_ldh_a_ma8 s
  | .pop_af => Sys2Proof.Machine.exec_pop_af s
  | .ld_a_mc => Sys2Proof.Machine.exec_ld_a_mc s
  | .di => Sys2Proof.Machine.exec_di s
  | .invalid_f4 => Sys2Proof.Machine.exec_invalid_f4 s
  | .push_af => Sys2Proof.Machine.exec_push_af s
  | .or_d8 => Sys2Proof.Machine.exec_or_d8 s
  | .rst_30h => Sys2Proof.Machine.exec_rst_30h s
  | .ld_hl_sp_e8 => Sys2Proof.Machine.exec_ld_hl_sp_e8 s
  | .ld_sp_hl => Sys2Proof.Machine.exec_ld_sp_hl s
  | .ld_a_ma16 => Sys2Proof.Machine.exec_ld_a_ma16 s
  | .ei => Sys2Proof.Machine.exec_ei s
  | .invalid_fc => Sys2Proof.Machine.exec_invalid_fc s
  | .invalid_fd => Sys2Proof.Machine.exec_invalid_fd s
  | .cp_d8 => Sys2Proof.Machine.exec_cp_d8 s
  | .rst_38h => Sys2Proof.Machine.exec_rst_38h s

end Sys2Proof.Machine
end

