-- ==== Sys2Proof/Machine/Optable.lean ====
section
/-! DEFINITION. The opcode table as the spec gives it: `descriptorOf`, one line per row of spec/30_encoding.md R112
(OPTABLE_DEFAULT). PRESUMED, log 9: the assignment of opcode values, every width but NOP's and every cycle cost are
the spec's own default, from general knowledge (D1, D27). -/
namespace Sys2Proof.Machine

/-- `OPTABLE`: a total function from the 256 byte values to descriptors (R107). It is read-only data, not state
(R109). -/
abbrev Optable := Byte → Descriptor

/-- The descriptor of each instruction of the default table (R112). -/
def descriptorOf : Instr → Descriptor
  | .nop => ⟨.nop, .none, .none, 1, 4⟩
  | .ld_bc_d16 => ⟨.ld, (.reg (.word .bc)), .immWord, 3, 12⟩
  | .ld_mbc_a => ⟨.ld, (.deref (.word .bc)), (.reg (.byte .a)), 1, 8⟩
  | .inc_bc => ⟨(.placeholder .inc), .none, .none, 1, 8⟩
  | .inc_b => ⟨(.placeholder .inc), .none, .none, 1, 4⟩
  | .dec_b => ⟨(.placeholder .dec), .none, .none, 1, 4⟩
  | .ld_b_d8 => ⟨.ld, (.reg (.byte .b)), .immByte, 2, 8⟩
  | .rlca => ⟨(.placeholder .rlca), .none, .none, 1, 4⟩
  | .ld_ma16_sp => ⟨(.placeholder .ld_a16_sp), .none, .none, 3, 20⟩
  | .add_hl_bc => ⟨.add, (.reg (.word .hl)), (.reg (.word .bc)), 1, 8⟩
  | .ld_a_mbc => ⟨.ld, (.reg (.byte .a)), (.deref (.word .bc)), 1, 8⟩
  | .dec_bc => ⟨(.placeholder .dec), .none, .none, 1, 8⟩
  | .inc_c => ⟨(.placeholder .inc), .none, .none, 1, 4⟩
  | .dec_c => ⟨(.placeholder .dec), .none, .none, 1, 4⟩
  | .ld_c_d8 => ⟨.ld, (.reg (.byte .c)), .immByte, 2, 8⟩
  | .rrca => ⟨(.placeholder .rrca), .none, .none, 1, 4⟩
  | .stop => ⟨(.placeholder .stop), .none, .none, 2, 4⟩
  | .ld_de_d16 => ⟨.ld, (.reg (.word .de)), .immWord, 3, 12⟩
  | .ld_mde_a => ⟨.ld, (.deref (.word .de)), (.reg (.byte .a)), 1, 8⟩
  | .inc_de => ⟨(.placeholder .inc), .none, .none, 1, 8⟩
  | .inc_d => ⟨(.placeholder .inc), .none, .none, 1, 4⟩
  | .dec_d => ⟨(.placeholder .dec), .none, .none, 1, 4⟩
  | .ld_d_d8 => ⟨.ld, (.reg (.byte .d)), .immByte, 2, 8⟩
  | .rla => ⟨(.placeholder .rla), .none, .none, 1, 4⟩
  | .jr_r8 => ⟨(.placeholder .jr), .none, .none, 2, 12⟩
  | .add_hl_de => ⟨.add, (.reg (.word .hl)), (.reg (.word .de)), 1, 8⟩
  | .ld_a_mde => ⟨.ld, (.reg (.byte .a)), (.deref (.word .de)), 1, 8⟩
  | .dec_de => ⟨(.placeholder .dec), .none, .none, 1, 8⟩
  | .inc_e => ⟨(.placeholder .inc), .none, .none, 1, 4⟩
  | .dec_e => ⟨(.placeholder .dec), .none, .none, 1, 4⟩
  | .ld_e_d8 => ⟨.ld, (.reg (.byte .e)), .immByte, 2, 8⟩
  | .rra => ⟨(.placeholder .rra), .none, .none, 1, 4⟩
  | .jr_nz_r8 => ⟨(.placeholder .jr), .none, .none, 2, 8⟩
  | .ld_hl_d16 => ⟨.ld, (.reg (.word .hl)), .immWord, 3, 12⟩
  | .ld_mhli_a => ⟨(.placeholder .ld_hli), .none, .none, 1, 8⟩
  | .inc_hl => ⟨(.placeholder .inc), .none, .none, 1, 8⟩
  | .inc_h => ⟨(.placeholder .inc), .none, .none, 1, 4⟩
  | .dec_h => ⟨(.placeholder .dec), .none, .none, 1, 4⟩
  | .ld_h_d8 => ⟨.ld, (.reg (.byte .h)), .immByte, 2, 8⟩
  | .daa => ⟨(.placeholder .daa), .none, .none, 1, 4⟩
  | .jr_z_r8 => ⟨(.placeholder .jr), .none, .none, 2, 8⟩
  | .add_hl_hl => ⟨.add, (.reg (.word .hl)), (.reg (.word .hl)), 1, 8⟩
  | .ld_a_mhli => ⟨(.placeholder .ld_hli), .none, .none, 1, 8⟩
  | .dec_hl => ⟨(.placeholder .dec), .none, .none, 1, 8⟩
  | .inc_l => ⟨(.placeholder .inc), .none, .none, 1, 4⟩
  | .dec_l => ⟨(.placeholder .dec), .none, .none, 1, 4⟩
  | .ld_l_d8 => ⟨.ld, (.reg (.byte .l)), .immByte, 2, 8⟩
  | .cpl => ⟨(.placeholder .cpl), .none, .none, 1, 4⟩
  | .jr_nc_r8 => ⟨(.placeholder .jr), .none, .none, 2, 8⟩
  | .ld_sp_d16 => ⟨.ld, (.reg (.word .sp)), .immWord, 3, 12⟩
  | .ld_mhld_a => ⟨(.placeholder .ld_hld), .none, .none, 1, 8⟩
  | .inc_sp => ⟨(.placeholder .inc), .none, .none, 1, 8⟩
  | .inc_mhl => ⟨(.placeholder .inc), .none, .none, 1, 12⟩
  | .dec_mhl => ⟨(.placeholder .dec), .none, .none, 1, 12⟩
  | .ld_mhl_d8 => ⟨.ld, (.deref (.word .hl)), .immByte, 2, 12⟩
  | .scf => ⟨(.placeholder .scf), .none, .none, 1, 4⟩
  | .jr_c_r8 => ⟨(.placeholder .jr), .none, .none, 2, 8⟩
  | .add_hl_sp => ⟨.add, (.reg (.word .hl)), (.reg (.word .sp)), 1, 8⟩
  | .ld_a_mhld => ⟨(.placeholder .ld_hld), .none, .none, 1, 8⟩
  | .dec_sp => ⟨(.placeholder .dec), .none, .none, 1, 8⟩
  | .inc_a => ⟨(.placeholder .inc), .none, .none, 1, 4⟩
  | .dec_a => ⟨(.placeholder .dec), .none, .none, 1, 4⟩
  | .ld_a_d8 => ⟨.ld, (.reg (.byte .a)), .immByte, 2, 8⟩
  | .ccf => ⟨(.placeholder .ccf), .none, .none, 1, 4⟩
  | .ld_b_b => ⟨.ld, (.reg (.byte .b)), (.reg (.byte .b)), 1, 4⟩
  | .ld_b_c => ⟨.ld, (.reg (.byte .b)), (.reg (.byte .c)), 1, 4⟩
  | .ld_b_d => ⟨.ld, (.reg (.byte .b)), (.reg (.byte .d)), 1, 4⟩
  | .ld_b_e => ⟨.ld, (.reg (.byte .b)), (.reg (.byte .e)), 1, 4⟩
  | .ld_b_h => ⟨.ld, (.reg (.byte .b)), (.reg (.byte .h)), 1, 4⟩
  | .ld_b_l => ⟨.ld, (.reg (.byte .b)), (.reg (.byte .l)), 1, 4⟩
  | .ld_b_mhl => ⟨.ld, (.reg (.byte .b)), (.deref (.word .hl)), 1, 8⟩
  | .ld_b_a => ⟨.ld, (.reg (.byte .b)), (.reg (.byte .a)), 1, 4⟩
  | .ld_c_b => ⟨.ld, (.reg (.byte .c)), (.reg (.byte .b)), 1, 4⟩
  | .ld_c_c => ⟨.ld, (.reg (.byte .c)), (.reg (.byte .c)), 1, 4⟩
  | .ld_c_d => ⟨.ld, (.reg (.byte .c)), (.reg (.byte .d)), 1, 4⟩
  | .ld_c_e => ⟨.ld, (.reg (.byte .c)), (.reg (.byte .e)), 1, 4⟩
  | .ld_c_h => ⟨.ld, (.reg (.byte .c)), (.reg (.byte .h)), 1, 4⟩
  | .ld_c_l => ⟨.ld, (.reg (.byte .c)), (.reg (.byte .l)), 1, 4⟩
  | .ld_c_mhl => ⟨.ld, (.reg (.byte .c)), (.deref (.word .hl)), 1, 8⟩
  | .ld_c_a => ⟨.ld, (.reg (.byte .c)), (.reg (.byte .a)), 1, 4⟩
  | .ld_d_b => ⟨.ld, (.reg (.byte .d)), (.reg (.byte .b)), 1, 4⟩
  | .ld_d_c => ⟨.ld, (.reg (.byte .d)), (.reg (.byte .c)), 1, 4⟩
  | .ld_d_d => ⟨.ld, (.reg (.byte .d)), (.reg (.byte .d)), 1, 4⟩
  | .ld_d_e => ⟨.ld, (.reg (.byte .d)), (.reg (.byte .e)), 1, 4⟩
  | .ld_d_h => ⟨.ld, (.reg (.byte .d)), (.reg (.byte .h)), 1, 4⟩
  | .ld_d_l => ⟨.ld, (.reg (.byte .d)), (.reg (.byte .l)), 1, 4⟩
  | .ld_d_mhl => ⟨.ld, (.reg (.byte .d)), (.deref (.word .hl)), 1, 8⟩
  | .ld_d_a => ⟨.ld, (.reg (.byte .d)), (.reg (.byte .a)), 1, 4⟩
  | .ld_e_b => ⟨.ld, (.reg (.byte .e)), (.reg (.byte .b)), 1, 4⟩
  | .ld_e_c => ⟨.ld, (.reg (.byte .e)), (.reg (.byte .c)), 1, 4⟩
  | .ld_e_d => ⟨.ld, (.reg (.byte .e)), (.reg (.byte .d)), 1, 4⟩
  | .ld_e_e => ⟨.ld, (.reg (.byte .e)), (.reg (.byte .e)), 1, 4⟩
  | .ld_e_h => ⟨.ld, (.reg (.byte .e)), (.reg (.byte .h)), 1, 4⟩
  | .ld_e_l => ⟨.ld, (.reg (.byte .e)), (.reg (.byte .l)), 1, 4⟩
  | .ld_e_mhl => ⟨.ld, (.reg (.byte .e)), (.deref (.word .hl)), 1, 8⟩
  | .ld_e_a => ⟨.ld, (.reg (.byte .e)), (.reg (.byte .a)), 1, 4⟩
  | .ld_h_b => ⟨.ld, (.reg (.byte .h)), (.reg (.byte .b)), 1, 4⟩
  | .ld_h_c => ⟨.ld, (.reg (.byte .h)), (.reg (.byte .c)), 1, 4⟩
  | .ld_h_d => ⟨.ld, (.reg (.byte .h)), (.reg (.byte .d)), 1, 4⟩
  | .ld_h_e => ⟨.ld, (.reg (.byte .h)), (.reg (.byte .e)), 1, 4⟩
  | .ld_h_h => ⟨.ld, (.reg (.byte .h)), (.reg (.byte .h)), 1, 4⟩
  | .ld_h_l => ⟨.ld, (.reg (.byte .h)), (.reg (.byte .l)), 1, 4⟩
  | .ld_h_mhl => ⟨.ld, (.reg (.byte .h)), (.deref (.word .hl)), 1, 8⟩
  | .ld_h_a => ⟨.ld, (.reg (.byte .h)), (.reg (.byte .a)), 1, 4⟩
  | .ld_l_b => ⟨.ld, (.reg (.byte .l)), (.reg (.byte .b)), 1, 4⟩
  | .ld_l_c => ⟨.ld, (.reg (.byte .l)), (.reg (.byte .c)), 1, 4⟩
  | .ld_l_d => ⟨.ld, (.reg (.byte .l)), (.reg (.byte .d)), 1, 4⟩
  | .ld_l_e => ⟨.ld, (.reg (.byte .l)), (.reg (.byte .e)), 1, 4⟩
  | .ld_l_h => ⟨.ld, (.reg (.byte .l)), (.reg (.byte .h)), 1, 4⟩
  | .ld_l_l => ⟨.ld, (.reg (.byte .l)), (.reg (.byte .l)), 1, 4⟩
  | .ld_l_mhl => ⟨.ld, (.reg (.byte .l)), (.deref (.word .hl)), 1, 8⟩
  | .ld_l_a => ⟨.ld, (.reg (.byte .l)), (.reg (.byte .a)), 1, 4⟩
  | .ld_mhl_b => ⟨.ld, (.deref (.word .hl)), (.reg (.byte .b)), 1, 8⟩
  | .ld_mhl_c => ⟨.ld, (.deref (.word .hl)), (.reg (.byte .c)), 1, 8⟩
  | .ld_mhl_d => ⟨.ld, (.deref (.word .hl)), (.reg (.byte .d)), 1, 8⟩
  | .ld_mhl_e => ⟨.ld, (.deref (.word .hl)), (.reg (.byte .e)), 1, 8⟩
  | .ld_mhl_h => ⟨.ld, (.deref (.word .hl)), (.reg (.byte .h)), 1, 8⟩
  | .ld_mhl_l => ⟨.ld, (.deref (.word .hl)), (.reg (.byte .l)), 1, 8⟩
  | .halt => ⟨(.placeholder .halt), .none, .none, 1, 4⟩
  | .ld_mhl_a => ⟨.ld, (.deref (.word .hl)), (.reg (.byte .a)), 1, 8⟩
  | .ld_a_b => ⟨.ld, (.reg (.byte .a)), (.reg (.byte .b)), 1, 4⟩
  | .ld_a_c => ⟨.ld, (.reg (.byte .a)), (.reg (.byte .c)), 1, 4⟩
  | .ld_a_d => ⟨.ld, (.reg (.byte .a)), (.reg (.byte .d)), 1, 4⟩
  | .ld_a_e => ⟨.ld, (.reg (.byte .a)), (.reg (.byte .e)), 1, 4⟩
  | .ld_a_h => ⟨.ld, (.reg (.byte .a)), (.reg (.byte .h)), 1, 4⟩
  | .ld_a_l => ⟨.ld, (.reg (.byte .a)), (.reg (.byte .l)), 1, 4⟩
  | .ld_a_mhl => ⟨.ld, (.reg (.byte .a)), (.deref (.word .hl)), 1, 8⟩
  | .ld_a_a => ⟨.ld, (.reg (.byte .a)), (.reg (.byte .a)), 1, 4⟩
  | .add_a_b => ⟨.add, (.reg (.byte .a)), (.reg (.byte .b)), 1, 4⟩
  | .add_a_c => ⟨.add, (.reg (.byte .a)), (.reg (.byte .c)), 1, 4⟩
  | .add_a_d => ⟨.add, (.reg (.byte .a)), (.reg (.byte .d)), 1, 4⟩
  | .add_a_e => ⟨.add, (.reg (.byte .a)), (.reg (.byte .e)), 1, 4⟩
  | .add_a_h => ⟨.add, (.reg (.byte .a)), (.reg (.byte .h)), 1, 4⟩
  | .add_a_l => ⟨.add, (.reg (.byte .a)), (.reg (.byte .l)), 1, 4⟩
  | .add_a_mhl => ⟨.add, (.reg (.byte .a)), (.deref (.word .hl)), 1, 8⟩
  | .add_a_a => ⟨.add, (.reg (.byte .a)), (.reg (.byte .a)), 1, 4⟩
  | .adc_a_b => ⟨(.placeholder .adc), .none, .none, 1, 4⟩
  | .adc_a_c => ⟨(.placeholder .adc), .none, .none, 1, 4⟩
  | .adc_a_d => ⟨(.placeholder .adc), .none, .none, 1, 4⟩
  | .adc_a_e => ⟨(.placeholder .adc), .none, .none, 1, 4⟩
  | .adc_a_h => ⟨(.placeholder .adc), .none, .none, 1, 4⟩
  | .adc_a_l => ⟨(.placeholder .adc), .none, .none, 1, 4⟩
  | .adc_a_mhl => ⟨(.placeholder .adc), .none, .none, 1, 8⟩
  | .adc_a_a => ⟨(.placeholder .adc), .none, .none, 1, 4⟩
  | .sub_b => ⟨(.placeholder .sub), .none, .none, 1, 4⟩
  | .sub_c => ⟨(.placeholder .sub), .none, .none, 1, 4⟩
  | .sub_d => ⟨(.placeholder .sub), .none, .none, 1, 4⟩
  | .sub_e => ⟨(.placeholder .sub), .none, .none, 1, 4⟩
  | .sub_h => ⟨(.placeholder .sub), .none, .none, 1, 4⟩
  | .sub_l => ⟨(.placeholder .sub), .none, .none, 1, 4⟩
  | .sub_mhl => ⟨(.placeholder .sub), .none, .none, 1, 8⟩
  | .sub_a => ⟨(.placeholder .sub), .none, .none, 1, 4⟩
  | .sbc_a_b => ⟨(.placeholder .sbc), .none, .none, 1, 4⟩
  | .sbc_a_c => ⟨(.placeholder .sbc), .none, .none, 1, 4⟩
  | .sbc_a_d => ⟨(.placeholder .sbc), .none, .none, 1, 4⟩
  | .sbc_a_e => ⟨(.placeholder .sbc), .none, .none, 1, 4⟩
  | .sbc_a_h => ⟨(.placeholder .sbc), .none, .none, 1, 4⟩
  | .sbc_a_l => ⟨(.placeholder .sbc), .none, .none, 1, 4⟩
  | .sbc_a_mhl => ⟨(.placeholder .sbc), .none, .none, 1, 8⟩
  | .sbc_a_a => ⟨(.placeholder .sbc), .none, .none, 1, 4⟩
  | .and_b => ⟨(.placeholder .and), .none, .none, 1, 4⟩
  | .and_c => ⟨(.placeholder .and), .none, .none, 1, 4⟩
  | .and_d => ⟨(.placeholder .and), .none, .none, 1, 4⟩
  | .and_e => ⟨(.placeholder .and), .none, .none, 1, 4⟩
  | .and_h => ⟨(.placeholder .and), .none, .none, 1, 4⟩
  | .and_l => ⟨(.placeholder .and), .none, .none, 1, 4⟩
  | .and_mhl => ⟨(.placeholder .and), .none, .none, 1, 8⟩
  | .and_a => ⟨(.placeholder .and), .none, .none, 1, 4⟩
  | .xor_b => ⟨(.placeholder .xor), .none, .none, 1, 4⟩
  | .xor_c => ⟨(.placeholder .xor), .none, .none, 1, 4⟩
  | .xor_d => ⟨(.placeholder .xor), .none, .none, 1, 4⟩
  | .xor_e => ⟨(.placeholder .xor), .none, .none, 1, 4⟩
  | .xor_h => ⟨(.placeholder .xor), .none, .none, 1, 4⟩
  | .xor_l => ⟨(.placeholder .xor), .none, .none, 1, 4⟩
  | .xor_mhl => ⟨(.placeholder .xor), .none, .none, 1, 8⟩
  | .xor_a => ⟨(.placeholder .xor), .none, .none, 1, 4⟩
  | .or_b => ⟨(.placeholder .or), .none, .none, 1, 4⟩
  | .or_c => ⟨(.placeholder .or), .none, .none, 1, 4⟩
  | .or_d => ⟨(.placeholder .or), .none, .none, 1, 4⟩
  | .or_e => ⟨(.placeholder .or), .none, .none, 1, 4⟩
  | .or_h => ⟨(.placeholder .or), .none, .none, 1, 4⟩
  | .or_l => ⟨(.placeholder .or), .none, .none, 1, 4⟩
  | .or_mhl => ⟨(.placeholder .or), .none, .none, 1, 8⟩
  | .or_a => ⟨(.placeholder .or), .none, .none, 1, 4⟩
  | .cp_b => ⟨(.placeholder .cp), .none, .none, 1, 4⟩
  | .cp_c => ⟨(.placeholder .cp), .none, .none, 1, 4⟩
  | .cp_d => ⟨(.placeholder .cp), .none, .none, 1, 4⟩
  | .cp_e => ⟨(.placeholder .cp), .none, .none, 1, 4⟩
  | .cp_h => ⟨(.placeholder .cp), .none, .none, 1, 4⟩
  | .cp_l => ⟨(.placeholder .cp), .none, .none, 1, 4⟩
  | .cp_mhl => ⟨(.placeholder .cp), .none, .none, 1, 8⟩
  | .cp_a => ⟨(.placeholder .cp), .none, .none, 1, 4⟩
  | .ret_nz => ⟨(.placeholder .ret), .none, .none, 1, 8⟩
  | .pop_bc => ⟨(.placeholder .pop), .none, .none, 1, 12⟩
  | .jp_nz_a16 => ⟨(.placeholder .jp), .none, .none, 3, 12⟩
  | .jp_a16 => ⟨(.placeholder .jp), .none, .none, 3, 16⟩
  | .call_nz_a16 => ⟨(.placeholder .call), .none, .none, 3, 12⟩
  | .push_bc => ⟨(.placeholder .push), .none, .none, 1, 16⟩
  | .add_a_d8 => ⟨.add, (.reg (.byte .a)), .immByte, 2, 8⟩
  | .rst_00h => ⟨(.placeholder .rst), .none, .none, 1, 16⟩
  | .ret_z => ⟨(.placeholder .ret), .none, .none, 1, 8⟩
  | .ret => ⟨(.placeholder .ret), .none, .none, 1, 16⟩
  | .jp_z_a16 => ⟨(.placeholder .jp), .none, .none, 3, 12⟩
  | .prefix_cb => ⟨(.placeholder .prefix_cb), .none, .none, 1, 4⟩
  | .call_z_a16 => ⟨(.placeholder .call), .none, .none, 3, 12⟩
  | .call_a16 => ⟨(.placeholder .call), .none, .none, 3, 24⟩
  | .adc_a_d8 => ⟨(.placeholder .adc), .none, .none, 2, 8⟩
  | .rst_08h => ⟨(.placeholder .rst), .none, .none, 1, 16⟩
  | .ret_nc => ⟨(.placeholder .ret), .none, .none, 1, 8⟩
  | .pop_de => ⟨(.placeholder .pop), .none, .none, 1, 12⟩
  | .jp_nc_a16 => ⟨(.placeholder .jp), .none, .none, 3, 12⟩
  | .invalid_d3 => ⟨.invalid, .none, .none, 1, 0⟩
  | .call_nc_a16 => ⟨(.placeholder .call), .none, .none, 3, 12⟩
  | .push_de => ⟨(.placeholder .push), .none, .none, 1, 16⟩
  | .sub_d8 => ⟨(.placeholder .sub), .none, .none, 2, 8⟩
  | .rst_10h => ⟨(.placeholder .rst), .none, .none, 1, 16⟩
  | .ret_c => ⟨(.placeholder .ret), .none, .none, 1, 8⟩
  | .reti => ⟨(.placeholder .reti), .none, .none, 1, 16⟩
  | .jp_c_a16 => ⟨(.placeholder .jp), .none, .none, 3, 12⟩
  | .invalid_db => ⟨.invalid, .none, .none, 1, 0⟩
  | .call_c_a16 => ⟨(.placeholder .call), .none, .none, 3, 12⟩
  | .invalid_dd => ⟨.invalid, .none, .none, 1, 0⟩
  | .sbc_a_d8 => ⟨(.placeholder .sbc), .none, .none, 2, 8⟩
  | .rst_18h => ⟨(.placeholder .rst), .none, .none, 1, 16⟩
  | .ldh_ma8_a => ⟨.ld, .offsetImm, (.reg (.byte .a)), 2, 12⟩
  | .pop_hl => ⟨(.placeholder .pop), .none, .none, 1, 12⟩
  | .ld_mc_a => ⟨.ld, (.deref (.byte .c)), (.reg (.byte .a)), 1, 8⟩
  | .invalid_e3 => ⟨.invalid, .none, .none, 1, 0⟩
  | .invalid_e4 => ⟨.invalid, .none, .none, 1, 0⟩
  | .push_hl => ⟨(.placeholder .push), .none, .none, 1, 16⟩
  | .and_d8 => ⟨(.placeholder .and), .none, .none, 2, 8⟩
  | .rst_20h => ⟨(.placeholder .rst), .none, .none, 1, 16⟩
  | .add_sp_e8 => ⟨.add, (.reg (.word .sp)), .immByte, 2, 16⟩
  | .jp_mhl => ⟨(.placeholder .jp), .none, .none, 1, 4⟩
  | .ld_ma16_a => ⟨(.placeholder .ld_a16_a), .none, .none, 3, 16⟩
  | .invalid_eb => ⟨.invalid, .none, .none, 1, 0⟩
  | .invalid_ec => ⟨.invalid, .none, .none, 1, 0⟩
  | .invalid_ed => ⟨.invalid, .none, .none, 1, 0⟩
  | .xor_d8 => ⟨(.placeholder .xor), .none, .none, 2, 8⟩
  | .rst_28h => ⟨(.placeholder .rst), .none, .none, 1, 16⟩
  | .ldh_a_ma8 => ⟨.ld, (.reg (.byte .a)), .offsetImm, 2, 12⟩
  | .pop_af => ⟨(.placeholder .pop), .none, .none, 1, 12⟩
  | .ld_a_mc => ⟨.ld, (.reg (.byte .a)), (.deref (.byte .c)), 1, 8⟩
  | .di => ⟨(.placeholder .di), .none, .none, 1, 4⟩
  | .invalid_f4 => ⟨.invalid, .none, .none, 1, 0⟩
  | .push_af => ⟨(.placeholder .push), .none, .none, 1, 16⟩
  | .or_d8 => ⟨(.placeholder .or), .none, .none, 2, 8⟩
  | .rst_30h => ⟨(.placeholder .rst), .none, .none, 1, 16⟩
  | .ld_hl_sp_e8 => ⟨(.placeholder .ld_hl_spe), .none, .none, 2, 12⟩
  | .ld_sp_hl => ⟨.ld, (.reg (.word .sp)), (.reg (.word .hl)), 1, 8⟩
  | .ld_a_ma16 => ⟨(.placeholder .ld_a_a16), .none, .none, 3, 16⟩
  | .ei => ⟨(.placeholder .ei), .none, .none, 1, 4⟩
  | .invalid_fc => ⟨.invalid, .none, .none, 1, 0⟩
  | .invalid_fd => ⟨.invalid, .none, .none, 1, 0⟩
  | .cp_d8 => ⟨(.placeholder .cp), .none, .none, 2, 8⟩
  | .rst_38h => ⟨(.placeholder .rst), .none, .none, 1, 16⟩

/-- How many instruction bytes resolving an operand reads (R105). -/
def operandBytes : Operand → Nat
  | .immByte => 1
  | .offsetImm => 1
  | .immWord => 2
  | .reg _ => 0
  | .deref _ => 0
  | .none => 0

/-- How many bytes follow the opcode in an instruction's format (R104): F1 none, F2 one, F3 two. -/
def operandCount (i : Instr) : Nat := (descriptorOf i).width - 1

end Sys2Proof.Machine
end

