-- ==== Sys2Proof/WellFormed.lean ====
section
/-! DEFINITION. Well-formedness: of a descriptor and of a table (spec/30_encoding.md R110), and of an instruction's
code (R104). -/
namespace Sys2Proof

/-- Kinds NOP, LD and ADD have semantics (R111). -/
def Kind.specified : Kind → Bool
  | .nop => true
  | .ld => true
  | .add => true
  | .invalid => false
  | .placeholder _ => false

/-- The immediate operand kinds (R110 (e)): those that read instruction bytes. -/
def Operand.immediate (o : Operand) : Bool := Machine.operandBytes o != 0

/-- The operand names one of the given registers, directly or as a pointer. -/
def Operand.names (o : Operand) (r : RegName) : Bool := o == .reg r || o == .deref r

/-- R110 (b): the width is 1, 2 or 3. A natural cycle cost holds by type. -/
def Descriptor.widthOk (d : Descriptor) : Bool := d.width == 1 || d.width == 2 || d.width == 3

/-- R110 (c), first half: no ADD writes F, AF or PC as its destination (U6). -/
def Descriptor.addDstOk (d : Descriptor) : Bool :=
  !(d.kind == .add &&
    (d.dst == .reg (.byte .f) || d.dst == .reg (.word .af) || d.dst == .reg (.word .pc)))

/-- R110 (c), second half: no entry of a specified kind dereferences PC (U6). -/
def Descriptor.noDerefPc (d : Descriptor) : Bool :=
  !(d.kind.specified && (d.dst == .deref (.word .pc) || d.src == .deref (.word .pc)))

/-- R110 (b) and (c): the descriptors for which the rules give a defined outcome. -/
def Descriptor.wf (d : Descriptor) : Bool := d.widthOk && d.addDstOk && d.noDerefPc

/-- R110 (d): a NOP entry has width 1 and no operands. -/
def Descriptor.nopPlain (d : Descriptor) : Bool :=
  d.kind != .nop || (d.width == 1 && d.dst == .none && d.src == .none)

/-- R110 (e): for LD and ADD the width counts the operand bytes, and at most one operand is immediate. -/
def Descriptor.widthCounts (d : Descriptor) : Bool :=
  !(d.kind == .ld || d.kind == .add) ||
    (d.width == 1 + Machine.operandBytes d.dst + Machine.operandBytes d.src &&
      !(d.dst.immediate && d.src.immediate))

/-- R110 (f): no LD or ADD entry lacks an operand, and no entry names PC or F. -/
def Descriptor.operandsPlain (d : Descriptor) : Bool :=
  (!(d.kind == .ld || d.kind == .add) || (d.dst != .none && d.src != .none)) &&
    !(d.dst.names (.word .pc) || d.src.names (.word .pc) ||
      d.dst.names (.byte .f) || d.src.names (.byte .f))

/-- R110 (d) to (f), what the default table satisfies beside `Descriptor.wf`. -/
def Descriptor.wfDefault (d : Descriptor) : Bool := d.nopPlain && d.widthCounts && d.operandsPlain

/-- A table meets R110 (a) to (c). Its 256 entries hold by type. -/
abbrev Optable.wf (t : Machine.Optable) : Prop := ∀ op : Byte, (t op).wf = true

/-- An instruction is well formed when its descriptor is. -/
def Instr.wf (i : Instr) : Bool := (Machine.descriptorOf i).wf

/-- An instruction's code has exactly the operand bytes of its format (R104, R105). -/
def Code.wf (c : Code) : Bool := c.instr.wf && c.operands.length == Machine.operandCount c.instr

end Sys2Proof
end

