-- ==== Sys2Proof/Decode.lean ====
section
/-! DEFINITION. Decoding and encoding (spec/30_encoding.md R100, R101, R104). Decoding is one table lookup by the
whole opcode byte; the lookup is total (R107), so no opcode byte is refused: only a byte sequence too short to hold
an instruction is. -/
namespace Sys2Proof

/-- Opcodes 0x00 to 0x0F of R112. -/
def opcodeRow0 : List Instr :=
  [.nop, .ld_bc_d16, .ld_mbc_a, .inc_bc, .inc_b, .dec_b, .ld_b_d8, .rlca,
   .ld_ma16_sp, .add_hl_bc, .ld_a_mbc, .dec_bc, .inc_c, .dec_c, .ld_c_d8, .rrca]

/-- Opcodes 0x10 to 0x1F of R112. -/
def opcodeRow1 : List Instr :=
  [.stop, .ld_de_d16, .ld_mde_a, .inc_de, .inc_d, .dec_d, .ld_d_d8, .rla,
   .jr_r8, .add_hl_de, .ld_a_mde, .dec_de, .inc_e, .dec_e, .ld_e_d8, .rra]

/-- Opcodes 0x20 to 0x2F of R112. -/
def opcodeRow2 : List Instr :=
  [.jr_nz_r8, .ld_hl_d16, .ld_mhli_a, .inc_hl, .inc_h, .dec_h, .ld_h_d8, .daa,
   .jr_z_r8, .add_hl_hl, .ld_a_mhli, .dec_hl, .inc_l, .dec_l, .ld_l_d8, .cpl]

/-- Opcodes 0x30 to 0x3F of R112. -/
def opcodeRow3 : List Instr :=
  [.jr_nc_r8, .ld_sp_d16, .ld_mhld_a, .inc_sp, .inc_mhl, .dec_mhl, .ld_mhl_d8, .scf,
   .jr_c_r8, .add_hl_sp, .ld_a_mhld, .dec_sp, .inc_a, .dec_a, .ld_a_d8, .ccf]

/-- Opcodes 0x40 to 0x4F of R112. -/
def opcodeRow4 : List Instr :=
  [.ld_b_b, .ld_b_c, .ld_b_d, .ld_b_e, .ld_b_h, .ld_b_l, .ld_b_mhl, .ld_b_a,
   .ld_c_b, .ld_c_c, .ld_c_d, .ld_c_e, .ld_c_h, .ld_c_l, .ld_c_mhl, .ld_c_a]

/-- Opcodes 0x50 to 0x5F of R112. -/
def opcodeRow5 : List Instr :=
  [.ld_d_b, .ld_d_c, .ld_d_d, .ld_d_e, .ld_d_h, .ld_d_l, .ld_d_mhl, .ld_d_a,
   .ld_e_b, .ld_e_c, .ld_e_d, .ld_e_e, .ld_e_h, .ld_e_l, .ld_e_mhl, .ld_e_a]

/-- Opcodes 0x60 to 0x6F of R112. -/
def opcodeRow6 : List Instr :=
  [.ld_h_b, .ld_h_c, .ld_h_d, .ld_h_e, .ld_h_h, .ld_h_l, .ld_h_mhl, .ld_h_a,
   .ld_l_b, .ld_l_c, .ld_l_d, .ld_l_e, .ld_l_h, .ld_l_l, .ld_l_mhl, .ld_l_a]

/-- Opcodes 0x70 to 0x7F of R112. -/
def opcodeRow7 : List Instr :=
  [.ld_mhl_b, .ld_mhl_c, .ld_mhl_d, .ld_mhl_e, .ld_mhl_h, .ld_mhl_l, .halt, .ld_mhl_a,
   .ld_a_b, .ld_a_c, .ld_a_d, .ld_a_e, .ld_a_h, .ld_a_l, .ld_a_mhl, .ld_a_a]

/-- Opcodes 0x80 to 0x8F of R112. -/
def opcodeRow8 : List Instr :=
  [.add_a_b, .add_a_c, .add_a_d, .add_a_e, .add_a_h, .add_a_l, .add_a_mhl, .add_a_a,
   .adc_a_b, .adc_a_c, .adc_a_d, .adc_a_e, .adc_a_h, .adc_a_l, .adc_a_mhl, .adc_a_a]

/-- Opcodes 0x90 to 0x9F of R112. -/
def opcodeRow9 : List Instr :=
  [.sub_b, .sub_c, .sub_d, .sub_e, .sub_h, .sub_l, .sub_mhl, .sub_a,
   .sbc_a_b, .sbc_a_c, .sbc_a_d, .sbc_a_e, .sbc_a_h, .sbc_a_l, .sbc_a_mhl, .sbc_a_a]

/-- Opcodes 0xA0 to 0xAF of R112. -/
def opcodeRowA : List Instr :=
  [.and_b, .and_c, .and_d, .and_e, .and_h, .and_l, .and_mhl, .and_a,
   .xor_b, .xor_c, .xor_d, .xor_e, .xor_h, .xor_l, .xor_mhl, .xor_a]

/-- Opcodes 0xB0 to 0xBF of R112. -/
def opcodeRowB : List Instr :=
  [.or_b, .or_c, .or_d, .or_e, .or_h, .or_l, .or_mhl, .or_a,
   .cp_b, .cp_c, .cp_d, .cp_e, .cp_h, .cp_l, .cp_mhl, .cp_a]

/-- Opcodes 0xC0 to 0xCF of R112. -/
def opcodeRowC : List Instr :=
  [.ret_nz, .pop_bc, .jp_nz_a16, .jp_a16, .call_nz_a16, .push_bc, .add_a_d8, .rst_00h,
   .ret_z, .ret, .jp_z_a16, .prefix_cb, .call_z_a16, .call_a16, .adc_a_d8, .rst_08h]

/-- Opcodes 0xD0 to 0xDF of R112. -/
def opcodeRowD : List Instr :=
  [.ret_nc, .pop_de, .jp_nc_a16, .invalid_d3, .call_nc_a16, .push_de, .sub_d8, .rst_10h,
   .ret_c, .reti, .jp_c_a16, .invalid_db, .call_c_a16, .invalid_dd, .sbc_a_d8, .rst_18h]

/-- Opcodes 0xE0 to 0xEF of R112. -/
def opcodeRowE : List Instr :=
  [.ldh_ma8_a, .pop_hl, .ld_mc_a, .invalid_e3, .invalid_e4, .push_hl, .and_d8, .rst_20h,
   .add_sp_e8, .jp_mhl, .ld_ma16_a, .invalid_eb, .invalid_ec, .invalid_ed, .xor_d8, .rst_28h]

/-- Opcodes 0xF0 to 0xFF of R112. -/
def opcodeRowF : List Instr :=
  [.ldh_a_ma8, .pop_af, .ld_a_mc, .di, .invalid_f4, .push_af, .or_d8, .rst_30h,
   .ld_hl_sp_e8, .ld_sp_hl, .ld_a_ma16, .ei, .invalid_fc, .invalid_fd, .cp_d8, .rst_38h]

/-- The instruction at each opcode value, in the order of R112. -/
def opcodeList : List Instr :=
  opcodeRow0 ++ opcodeRow1 ++ opcodeRow2 ++ opcodeRow3 ++ opcodeRow4 ++ opcodeRow5 ++ opcodeRow6 ++ opcodeRow7 ++
  opcodeRow8 ++ opcodeRow9 ++ opcodeRowA ++ opcodeRowB ++ opcodeRowC ++ opcodeRowD ++ opcodeRowE ++ opcodeRowF

theorem opcodeRow0_length : opcodeRow0.length = 16 := rfl
theorem opcodeRow1_length : opcodeRow1.length = 16 := rfl
theorem opcodeRow2_length : opcodeRow2.length = 16 := rfl
theorem opcodeRow3_length : opcodeRow3.length = 16 := rfl
theorem opcodeRow4_length : opcodeRow4.length = 16 := rfl
theorem opcodeRow5_length : opcodeRow5.length = 16 := rfl
theorem opcodeRow6_length : opcodeRow6.length = 16 := rfl
theorem opcodeRow7_length : opcodeRow7.length = 16 := rfl
theorem opcodeRow8_length : opcodeRow8.length = 16 := rfl
theorem opcodeRow9_length : opcodeRow9.length = 16 := rfl
theorem opcodeRowA_length : opcodeRowA.length = 16 := rfl
theorem opcodeRowB_length : opcodeRowB.length = 16 := rfl
theorem opcodeRowC_length : opcodeRowC.length = 16 := rfl
theorem opcodeRowD_length : opcodeRowD.length = 16 := rfl
theorem opcodeRowE_length : opcodeRowE.length = 16 := rfl
theorem opcodeRowF_length : opcodeRowF.length = 16 := rfl

theorem opcodeList_length : opcodeList.length = 256 := by
  simp only [opcodeList, List.length_append, opcodeRow0_length, opcodeRow1_length, opcodeRow2_length, opcodeRow3_length, opcodeRow4_length,
    opcodeRow5_length, opcodeRow6_length, opcodeRow7_length, opcodeRow8_length, opcodeRow9_length,
    opcodeRowA_length, opcodeRowB_length, opcodeRowC_length, opcodeRowD_length, opcodeRowE_length, opcodeRowF_length]

/-- Decoding: the whole opcode byte indexes the table (R101, R145). Total. -/
def decodeOpcode (op : Byte) : Instr :=
  opcodeList[op.toNat]'(opcodeList_length ▸ op.isLt)

/-- Decodes the instruction at the head of a byte sequence, with the bytes left over. The opcode byte alone decides
the instruction and its length (R101, R105). -/
def decode : List Byte → Except DecodeError (Code × List Byte)
  | [] => .error .noOpcode
  | op :: rest =>
    let i := decodeOpcode op
    let n := Machine.operandCount i
    if n ≤ rest.length then .ok (⟨i, rest.take n⟩, rest.drop n) else .error (.missingOperand i)

/-- The opcode byte of each instruction, from the opcode column of R112. -/
def opcodeOf : Instr → Byte
  | .nop => 0x00#8
  | .ld_bc_d16 => 0x01#8
  | .ld_mbc_a => 0x02#8
  | .inc_bc => 0x03#8
  | .inc_b => 0x04#8
  | .dec_b => 0x05#8
  | .ld_b_d8 => 0x06#8
  | .rlca => 0x07#8
  | .ld_ma16_sp => 0x08#8
  | .add_hl_bc => 0x09#8
  | .ld_a_mbc => 0x0A#8
  | .dec_bc => 0x0B#8
  | .inc_c => 0x0C#8
  | .dec_c => 0x0D#8
  | .ld_c_d8 => 0x0E#8
  | .rrca => 0x0F#8
  | .stop => 0x10#8
  | .ld_de_d16 => 0x11#8
  | .ld_mde_a => 0x12#8
  | .inc_de => 0x13#8
  | .inc_d => 0x14#8
  | .dec_d => 0x15#8
  | .ld_d_d8 => 0x16#8
  | .rla => 0x17#8
  | .jr_r8 => 0x18#8
  | .add_hl_de => 0x19#8
  | .ld_a_mde => 0x1A#8
  | .dec_de => 0x1B#8
  | .inc_e => 0x1C#8
  | .dec_e => 0x1D#8
  | .ld_e_d8 => 0x1E#8
  | .rra => 0x1F#8
  | .jr_nz_r8 => 0x20#8
  | .ld_hl_d16 => 0x21#8
  | .ld_mhli_a => 0x22#8
  | .inc_hl => 0x23#8
  | .inc_h => 0x24#8
  | .dec_h => 0x25#8
  | .ld_h_d8 => 0x26#8
  | .daa => 0x27#8
  | .jr_z_r8 => 0x28#8
  | .add_hl_hl => 0x29#8
  | .ld_a_mhli => 0x2A#8
  | .dec_hl => 0x2B#8
  | .inc_l => 0x2C#8
  | .dec_l => 0x2D#8
  | .ld_l_d8 => 0x2E#8
  | .cpl => 0x2F#8
  | .jr_nc_r8 => 0x30#8
  | .ld_sp_d16 => 0x31#8
  | .ld_mhld_a => 0x32#8
  | .inc_sp => 0x33#8
  | .inc_mhl => 0x34#8
  | .dec_mhl => 0x35#8
  | .ld_mhl_d8 => 0x36#8
  | .scf => 0x37#8
  | .jr_c_r8 => 0x38#8
  | .add_hl_sp => 0x39#8
  | .ld_a_mhld => 0x3A#8
  | .dec_sp => 0x3B#8
  | .inc_a => 0x3C#8
  | .dec_a => 0x3D#8
  | .ld_a_d8 => 0x3E#8
  | .ccf => 0x3F#8
  | .ld_b_b => 0x40#8
  | .ld_b_c => 0x41#8
  | .ld_b_d => 0x42#8
  | .ld_b_e => 0x43#8
  | .ld_b_h => 0x44#8
  | .ld_b_l => 0x45#8
  | .ld_b_mhl => 0x46#8
  | .ld_b_a => 0x47#8
  | .ld_c_b => 0x48#8
  | .ld_c_c => 0x49#8
  | .ld_c_d => 0x4A#8
  | .ld_c_e => 0x4B#8
  | .ld_c_h => 0x4C#8
  | .ld_c_l => 0x4D#8
  | .ld_c_mhl => 0x4E#8
  | .ld_c_a => 0x4F#8
  | .ld_d_b => 0x50#8
  | .ld_d_c => 0x51#8
  | .ld_d_d => 0x52#8
  | .ld_d_e => 0x53#8
  | .ld_d_h => 0x54#8
  | .ld_d_l => 0x55#8
  | .ld_d_mhl => 0x56#8
  | .ld_d_a => 0x57#8
  | .ld_e_b => 0x58#8
  | .ld_e_c => 0x59#8
  | .ld_e_d => 0x5A#8
  | .ld_e_e => 0x5B#8
  | .ld_e_h => 0x5C#8
  | .ld_e_l => 0x5D#8
  | .ld_e_mhl => 0x5E#8
  | .ld_e_a => 0x5F#8
  | .ld_h_b => 0x60#8
  | .ld_h_c => 0x61#8
  | .ld_h_d => 0x62#8
  | .ld_h_e => 0x63#8
  | .ld_h_h => 0x64#8
  | .ld_h_l => 0x65#8
  | .ld_h_mhl => 0x66#8
  | .ld_h_a => 0x67#8
  | .ld_l_b => 0x68#8
  | .ld_l_c => 0x69#8
  | .ld_l_d => 0x6A#8
  | .ld_l_e => 0x6B#8
  | .ld_l_h => 0x6C#8
  | .ld_l_l => 0x6D#8
  | .ld_l_mhl => 0x6E#8
  | .ld_l_a => 0x6F#8
  | .ld_mhl_b => 0x70#8
  | .ld_mhl_c => 0x71#8
  | .ld_mhl_d => 0x72#8
  | .ld_mhl_e => 0x73#8
  | .ld_mhl_h => 0x74#8
  | .ld_mhl_l => 0x75#8
  | .halt => 0x76#8
  | .ld_mhl_a => 0x77#8
  | .ld_a_b => 0x78#8
  | .ld_a_c => 0x79#8
  | .ld_a_d => 0x7A#8
  | .ld_a_e => 0x7B#8
  | .ld_a_h => 0x7C#8
  | .ld_a_l => 0x7D#8
  | .ld_a_mhl => 0x7E#8
  | .ld_a_a => 0x7F#8
  | .add_a_b => 0x80#8
  | .add_a_c => 0x81#8
  | .add_a_d => 0x82#8
  | .add_a_e => 0x83#8
  | .add_a_h => 0x84#8
  | .add_a_l => 0x85#8
  | .add_a_mhl => 0x86#8
  | .add_a_a => 0x87#8
  | .adc_a_b => 0x88#8
  | .adc_a_c => 0x89#8
  | .adc_a_d => 0x8A#8
  | .adc_a_e => 0x8B#8
  | .adc_a_h => 0x8C#8
  | .adc_a_l => 0x8D#8
  | .adc_a_mhl => 0x8E#8
  | .adc_a_a => 0x8F#8
  | .sub_b => 0x90#8
  | .sub_c => 0x91#8
  | .sub_d => 0x92#8
  | .sub_e => 0x93#8
  | .sub_h => 0x94#8
  | .sub_l => 0x95#8
  | .sub_mhl => 0x96#8
  | .sub_a => 0x97#8
  | .sbc_a_b => 0x98#8
  | .sbc_a_c => 0x99#8
  | .sbc_a_d => 0x9A#8
  | .sbc_a_e => 0x9B#8
  | .sbc_a_h => 0x9C#8
  | .sbc_a_l => 0x9D#8
  | .sbc_a_mhl => 0x9E#8
  | .sbc_a_a => 0x9F#8
  | .and_b => 0xA0#8
  | .and_c => 0xA1#8
  | .and_d => 0xA2#8
  | .and_e => 0xA3#8
  | .and_h => 0xA4#8
  | .and_l => 0xA5#8
  | .and_mhl => 0xA6#8
  | .and_a => 0xA7#8
  | .xor_b => 0xA8#8
  | .xor_c => 0xA9#8
  | .xor_d => 0xAA#8
  | .xor_e => 0xAB#8
  | .xor_h => 0xAC#8
  | .xor_l => 0xAD#8
  | .xor_mhl => 0xAE#8
  | .xor_a => 0xAF#8
  | .or_b => 0xB0#8
  | .or_c => 0xB1#8
  | .or_d => 0xB2#8
  | .or_e => 0xB3#8
  | .or_h => 0xB4#8
  | .or_l => 0xB5#8
  | .or_mhl => 0xB6#8
  | .or_a => 0xB7#8
  | .cp_b => 0xB8#8
  | .cp_c => 0xB9#8
  | .cp_d => 0xBA#8
  | .cp_e => 0xBB#8
  | .cp_h => 0xBC#8
  | .cp_l => 0xBD#8
  | .cp_mhl => 0xBE#8
  | .cp_a => 0xBF#8
  | .ret_nz => 0xC0#8
  | .pop_bc => 0xC1#8
  | .jp_nz_a16 => 0xC2#8
  | .jp_a16 => 0xC3#8
  | .call_nz_a16 => 0xC4#8
  | .push_bc => 0xC5#8
  | .add_a_d8 => 0xC6#8
  | .rst_00h => 0xC7#8
  | .ret_z => 0xC8#8
  | .ret => 0xC9#8
  | .jp_z_a16 => 0xCA#8
  | .prefix_cb => 0xCB#8
  | .call_z_a16 => 0xCC#8
  | .call_a16 => 0xCD#8
  | .adc_a_d8 => 0xCE#8
  | .rst_08h => 0xCF#8
  | .ret_nc => 0xD0#8
  | .pop_de => 0xD1#8
  | .jp_nc_a16 => 0xD2#8
  | .invalid_d3 => 0xD3#8
  | .call_nc_a16 => 0xD4#8
  | .push_de => 0xD5#8
  | .sub_d8 => 0xD6#8
  | .rst_10h => 0xD7#8
  | .ret_c => 0xD8#8
  | .reti => 0xD9#8
  | .jp_c_a16 => 0xDA#8
  | .invalid_db => 0xDB#8
  | .call_c_a16 => 0xDC#8
  | .invalid_dd => 0xDD#8
  | .sbc_a_d8 => 0xDE#8
  | .rst_18h => 0xDF#8
  | .ldh_ma8_a => 0xE0#8
  | .pop_hl => 0xE1#8
  | .ld_mc_a => 0xE2#8
  | .invalid_e3 => 0xE3#8
  | .invalid_e4 => 0xE4#8
  | .push_hl => 0xE5#8
  | .and_d8 => 0xE6#8
  | .rst_20h => 0xE7#8
  | .add_sp_e8 => 0xE8#8
  | .jp_mhl => 0xE9#8
  | .ld_ma16_a => 0xEA#8
  | .invalid_eb => 0xEB#8
  | .invalid_ec => 0xEC#8
  | .invalid_ed => 0xED#8
  | .xor_d8 => 0xEE#8
  | .rst_28h => 0xEF#8
  | .ldh_a_ma8 => 0xF0#8
  | .pop_af => 0xF1#8
  | .ld_a_mc => 0xF2#8
  | .di => 0xF3#8
  | .invalid_f4 => 0xF4#8
  | .push_af => 0xF5#8
  | .or_d8 => 0xF6#8
  | .rst_30h => 0xF7#8
  | .ld_hl_sp_e8 => 0xF8#8
  | .ld_sp_hl => 0xF9#8
  | .ld_a_ma16 => 0xFA#8
  | .ei => 0xFB#8
  | .invalid_fc => 0xFC#8
  | .invalid_fd => 0xFD#8
  | .cp_d8 => 0xFE#8
  | .rst_38h => 0xFF#8

/-- Encoding: the opcode byte, then the operand bytes at the addresses after it (R100, R104). The high byte of an
immediate word comes first (R106). -/
def encode (c : Code) : List Byte := opcodeOf c.instr :: c.operands

/-- Byte `k` of a number whose bit 0 is the least significant bit of the first byte. -/
def tableByte (w k : Nat) : Byte := BitVec.ofNat 8 (w >>> (8 * k))

/-- The bytes, lowest address first, of an instruction given as the low `nbits` bits of `w`, every bit above them 0,
up to the longest instruction (three bytes, R100). -/
def tableBytes (nbits w : Nat) : List Byte :=
  let v := w % 2 ^ nbits
  [tableByte v 0, tableByte v 1, tableByte v 2]

/-- The instruction the decoder reads from a table word. -/
def decodeTableWord (nbits w : Nat) : Option Instr :=
  match decode (tableBytes nbits w) with
  | .ok (c, _) => some c.instr
  | .error _ => none

end Sys2Proof
end

