-- ==== Sys2Proof/Machine/Fetch.lean ====
section
/-! DEFINITION. The fetch and the decoding of a step (spec/40_step_and_operands.md R144, R145), a step with its Bus events
(R152), a step over any opcode table (R155), and the placing of an instruction where the next fetch reads it. -/
namespace Sys2Proof.Machine

/-- Steps 1 and 2: the opcode byte at PC through the Bus, then the table (R144, R145). -/
def fetch (s : State) : Traced (Instr × State) :=
  (memRead s s.pc).bind fun op => .pure (decodeOpcode op.1, op.2)

/-- A whole step with its Bus events, in order: the fetch, the accesses of the instruction, the catch-up
(R152, R154, R155). -/
def stepTrace (s : State) : Traced State :=
  (fetch s).bind fun i => runDescriptor (descriptorOf i.1) i.2

/-- OPTABLE_DEFAULT as a table (spec/30_encoding.md R107, R112). -/
def optableDefault : Optable := fun op => descriptorOf (decodeOpcode op)

/-- The step over any opcode table (R155). An entry R110 (b) or (c) excludes is refused (U6, D21, log 27). -/
def stepWith (table : Optable) (s : State) : Outcome :=
  match s.bus.read s.pc with
  | .error f => .fault f
  | .ok op =>
    if (table op).wf then deliver (runDescriptor (table op) (s.afterRead s.pc)) else .refused .tableRefused

/-- The state with one byte placed by the loader outside the machine (spec/10_state.md R45): where the Bus has no plain
memory, nothing is placed. -/
def State.placeByte (s : State) (a : Word) (v : Byte) : State :=
  if s.bus.plain a then
    match s.busWrite a v with
    | .ok t => t
    | .error _ => s
  else s

/-- A launch whose PC is at plain memory: PC stays where it is when it is, and else is at the start of RAM
(spec/70_reset_and_hazards.md R273 (b), log 24). -/
def State.atPlainMemory (s : State) : State :=
  if s.bus.plain s.pc then s else { s with pc := s.bus.ram.start }

/-- The bytes of an instruction placed at PC and the addresses after it (R100). -/
def State.placeCode (s : State) : Nat → List Byte → State
  | _, [] => s
  | k, b :: rest => (s.placeByte (immAddr s.pc k) b).placeCode (k + 1) rest

end Sys2Proof.Machine
end

