-- ==== Sys2Proof/Machine/Step.lean ====
section
/-! DEFINITION. One step: fetch, decode, execute (spec/40_step_and_operands.md R144 to R155). The advance, the catch-up and
the return stand inside each meaning. -/
namespace Sys2Proof.Machine

/-- One call of `step` (R155): the first fault met is what it answers (R150, R236). -/
def step (s : State) : Host.Outcome State Fault Refusal :=
  match (fetch s).result with
  | .ok i => exec i.1 i.2
  | .error f => .fault f

/-- `s` with an instruction's bytes where the next step fetches (log 24): PC is set to the start of RAM when it does
not point at plain memory, and the bytes stand at PC, PC + 1 and PC + 2. -/
def State.withFetchWord (s : State) (nbits w : Nat) : State :=
  s.atPlainMemory.placeCode 0 (tableBytes nbits w)

end Sys2Proof.Machine
end

