-- ==== Sys2Proof/Machine/Timing.lean ====
section
/-! DEFINITION. The conversion of a cycle count to microseconds (spec/60_exceptions.md R251). -/
namespace Sys2Proof.Machine

/-- `micros(f, c) = round(1000000 * c / f)` on exact rationals, a tie going up (R251; D15, log 18). There is no value
for `f = 0` (U10, D16). -/
def micros (f c : Nat) : Option Nat :=
  if f = 0 then none else some ((2 * (1000000 * c) + f) / (2 * f))

end Sys2Proof.Machine
end

