-- ==== Sys2Proof/Machine/HostCalls.lean ====
section
/-! DEFINITION. The host's calls beside `step` (spec/60_exceptions.md R260): construction, `interrupt`, `copy_of`; the
launch conditions (spec/00_scope.md R6, spec/70_reset_and_hazards.md R273 (a)); the suggested cause numbers and
information word (R235). -/
namespace Sys2Proof.Machine

/-- The constraints of R6 on the parameters, and the canonical form of both devices' contents: what construction
checks and every step keeps. -/
def State.wf (s : State) : Bool :=
  s.bus.ram.wf && s.bus.per.wf && s.flagBits.distinct && decide (1 ≤ s.freqHz)

/-- Construction of the CORE from its parameters and INIT (R260, R271). Parameters outside R6 are refused
(U10, U11, log 26). -/
def construct (p : Params) (i : Init) : Outcome :=
  if (State.launch p i).wf then .next (State.launch p i) else .refused .parametersRefused

/-- `interrupt()` (R242): a stub. It answers what INT_HOOK answers and changes nothing (D17, log 19). -/
def interrupt (s : State) : InterruptAnswer × State := (s.intHook, s)

/-- `Bus.copy_of(target)` (spec/20_memory.md R77): a copy, and the machine unchanged. -/
def copyOf (s : State) (target : SnapshotTarget) : List Byte × State := (s.bus.copyOf target, s)

/-- The suggested cause number of a fault (R235). Nothing in the machine reads it. -/
def Fault.causeCode : Fault → Nat
  | .outOfBounds _ => 1
  | .illegalInstruction _ => 2
  | .badRegisterAccess _ _ => 3
  | .unimplemented _ => 4

/-- The suggested cause number of a step's answer: 0 when it returned its cycle cost (R235). A refusal is the model's
own and has none. -/
def causeOf : Outcome → Option Nat
  | .next _ => some 0
  | .fault f => some f.causeCode
  | .refused _ => none

/-- The number of a register name: its place in R9's list, the 8-bit names first. DESIGN CHOICE, log 33. -/
def registerNumber : RegName → Byte
  | .byte .a => 0#8
  | .byte .f => 1#8
  | .byte .b => 2#8
  | .byte .c => 3#8
  | .byte .d => 4#8
  | .byte .e => 5#8
  | .byte .h => 6#8
  | .byte .l => 7#8
  | .word .af => 8#8
  | .word .bc => 9#8
  | .word .de => 10#8
  | .word .hl => 11#8
  | .word .sp => 12#8
  | .word .pc => 13#8

/-- A width in bits (R9). -/
def widthBits : Width → Byte
  | .byte => 8#8
  | .word => 16#8

/-- The suggested 16-bit information word of a fault (R235): the address, or the register number in the low byte and the
requested width in the high byte (the packing: DESIGN CHOICE, log 33). Nothing in the machine reads it. -/
def Fault.infoWord : Fault → Word
  | .outOfBounds a => a
  | .illegalInstruction a => a
  | .unimplemented a => a
  | .badRegisterAccess r w => widthBits w ++ registerNumber r

end Sys2Proof.Machine
end

