-- ==== Sys2Proof/Safety.lean ====
section
/-! DEFINITION. What counts as a safe run (spec/70_reset_and_hazards.md R273, R274): the terms in which claims about runs
are stated. -/
namespace Sys2Proof

/-- A run of `k` steps that ended well: none of them faulted (R274, D30, log 25). -/
def endsWell (k : Nat) (s : Machine.State) : Prop := ∃ t, core.run k s = .next t

/-- The instruction has a full meaning: NOP, or an LD or ADD whose operands have the widths their kind needs
(the class `specified` of spec/30_encoding.md R112). -/
def Instr.runs (i : Instr) : Bool :=
  let d := Machine.descriptorOf i
  d.kind.specified &&
    !(d.src == .immWord || d.dst == .reg (.word .sp))

/-- The next step does not fault. -/
def safeStep (s : Machine.State) : Prop := ∃ t, Machine.step s = .next t

end Sys2Proof
end

