-- ==== Sys2Proof/Certificates/Slice0/Terms.lean ====
section
/-! DEFINITION. The terms the statements are written in: what a successful step leaves unchanged, what its end does, the
Bus events of an instruction form, and the instructions of each form by name (spec/30_encoding.md R112). -/
namespace Sys2Proof.Terms

open Sys2Proof.Machine

/-- Every 8-bit register but the written ones, and SP, hold what they held. -/
def registersKept (written : Reg8 → Prop) (s t : State) : Prop :=
  (∀ r, ¬ written r → t.get8 r = s.get8 r) ∧ t.sp = s.sp

/-- Every byte outside the stored addresses reads as before, wherever only a write can change what the Bus answers
(spec/20_memory.md R84, R87): everywhere with VRAM_DEFAULT, and in RAM with any other peripheral. -/
def bytesKept (stored : Word → Prop) (s t : State) : Prop :=
  ∀ a, ¬ stored a → s.bus.steady a = true → t.bus.read a = s.bus.read a

/-- The construction parameters are what they were (spec/10_state.md R37, R43). -/
def paramsKept (s t : State) : Prop :=
  t.freqHz = s.freqHz ∧ t.flagBits = s.flagBits ∧ t.intHook = s.intHook ∧
    t.bus.ram.start = s.bus.ram.start ∧ t.bus.ram.size = s.bus.ram.size ∧
    t.bus.per.start = s.bus.per.start ∧ t.bus.per.size = s.bus.per.size

/-- The end of a successful step: PC advanced by the width, one more notification, the cost returned, and the Bus `b` of
the instruction's accesses with its peripheral notified (spec/40_step_and_operands.md R148, R149;
spec/60_exceptions.md R250, R252, R254). -/
def stepEnds (width cycles : Nat) (b : Bus) (s t : State) : Prop :=
  t.pc = s.pc + BitVec.ofNat 16 width ∧ t.notices = ⟨s.freqHz, cycles⟩ :: s.notices ∧
    t.returned = some cycles ∧ t.bus = b.catchup ⟨s.freqHz, cycles⟩ ∧ paramsKept s t

/-- An instruction that stores nothing: the end of the step on the Bus `b` that its reads leave, and every byte as
before. -/
def storesNothing (width cycles : Nat) (b : Bus) (s t : State) : Prop :=
  stepEnds width cycles b s t ∧ bytesKept (fun _ => False) s t

/-- An instruction that stores one byte at `a` and writes no register: the end of the step on the written Bus `b`, every
other byte as before, and, in plain memory of a well-formed machine, the byte stored. -/
def storesByte (width cycles : Nat) (b : Bus) (a : Word) (v : Byte) (s t : State) : Prop :=
  registersKept (fun _ => False) s t ∧ stepEnds width cycles b s t ∧ bytesKept (fun x => x = a) s t ∧
    (s.wf = true → s.bus.plain a = true → t.bus.read a = .ok v)

/-- The bits of F that are no flag hold what they held (spec/10_state.md R34). -/
def unusedFlagBitsKept (s t : State) : Prop :=
  ∀ k : Fin 8, (∀ g, s.flagBits.pos g ≠ k) → (t.get8 .f).getLsbD k.val = (s.get8 .f).getLsbD k.val

/-- N, H and C after an addition of `a` and `b` in `n` bits with the half-carry out of the low `m` bits
(spec/43_add.md R201, R202). -/
def carriesOf (m n a b : Nat) (t : State) : Prop :=
  t.flag .n = false ∧ (t.flag .h = true ↔ 2 ^ m ≤ a % 2 ^ m + b % 2 ^ m) ∧ (t.flag .c = true ↔ 2 ^ n ≤ a + b)

/-- Everything `ADD A,…` with source `b` does to the registers (R201, R203, log 11). -/
def addedToA (b : Byte) (s t : State) : Prop :=
  (t.get8 .a).toNat = ((s.get8 .a).toNat + b.toNat) % 256 ∧
    carriesOf 4 8 (s.get8 .a).toNat b.toNat t ∧
    (t.flag .z = true ↔ s.flag .z = true ∨ ((s.get8 .a).toNat + b.toNat) % 256 = 0) ∧
    unusedFlagBitsKept s t ∧ registersKept (fun q => q = .a ∨ q = .f) s t

/-- Everything `ADD HL,…` with source `b` does to the registers (R202, R203, log 11). -/
def addedToHl (b : Word) (s t : State) : Prop :=
  (t.get16 .hl).toNat = ((s.get16 .hl).toNat + b.toNat) % 65536 ∧
    carriesOf 12 16 (s.get16 .hl).toNat b.toNat t ∧
    (t.flag .z = true ↔ s.flag .z = true ∨ ((s.get16 .hl).toNat + b.toNat) % 65536 = 0) ∧
    unusedFlagBitsKept s t ∧ registersKept (fun q => q = .h ∨ q = .l ∨ q = .f) s t

/-- Two outcomes agree up to what `forget` erases from a next state: both a next state, or both the same fault. -/
def sameUpTo (forget : State → State) (o o' : Outcome) : Prop :=
  (∃ t t', o = .next t ∧ o' = .next t' ∧ forget t = forget t') ∨ ∃ f, o = .fault f ∧ o' = .fault f

/-- Erases F. -/
def forgetFlags (s : State) : State := s.set8 .f 0#8

/-- Erases what tells the time: the clock frequency, the notifications sent, and the state of a peripheral that is not
VRAM_DEFAULT. -/
def forgetTime (s : State) : State :=
  { s with
    freqHz := 0, notices := []
    bus := { s.bus with
      per := { s.bus.per with
        unit := match s.bus.per.unit with
          | .vram m => .vram m
          | .device _ => .device 0 } } }

/-- Two states agree but for the clock frequency and the notifications sent (log 20). -/
def sameButClock (s s' : State) : Prop := s' = { s with freqHz := s'.freqHz, notices := s'.notices }

/-- A range is non-empty and does not pass 0xFFFF (spec/00_scope.md R6). -/
abbrev rangeLegal (start : Word) (size : Nat) : Prop := 1 ≤ size ∧ start.toNat + size - 1 ≤ 0xFFFF

/-- Contents of a byte array in the model's one form (log 3): addresses rise strictly, lie in the range, and no zero byte is
listed. -/
abbrev contentsCanonical (start : Word) (size : Nat) (m : Memory) : Prop :=
  m.Pairwise (fun x y => x.1 < y.1) ∧ ∀ x ∈ m, start.toNat ≤ x.1 ∧ x.1 < start.toNat + size ∧ x.2 ≠ 0#8

/-- The constraints of R6 on the parameters and INIT, with contents in the model's form (log 3). -/
def launchLegal (p : Params) (i : Init) : Prop :=
  1 ≤ p.freqHz ∧ rangeLegal p.ramStart p.ramSize ∧ rangeLegal p.perStart p.perSize ∧
    [p.flagBits.z, p.flagBits.n, p.flagBits.h, p.flagBits.c].Nodup ∧
    contentsCanonical p.ramStart p.ramSize i.ram ∧ ∀ m, i.per = .vram m → contentsCanonical p.perStart p.perSize m

/-- The fourteen register names in the order of R9; a name's place is its number in the report of a fault (log 33). -/
def registerOrder : List RegName :=
  [.byte .a, .byte .f, .byte .b, .byte .c, .byte .d, .byte .e, .byte .h, .byte .l,
   .word .af, .word .bc, .word .de, .word .hl, .word .sp, .word .pc]

/-- The Bus event is the catch-up. -/
def isCatchup : BusEvent → Bool
  | .catchup _ => true
  | .read _ => false
  | .write _ _ => false

/-- The accesses of resolving a source after the opcode read, in order; `n` is the offset byte
(spec/40_step_and_operands.md R152). -/
def sourceAccesses (s : State) (n : Byte) : Operand → List BusEvent
  | .reg _ => []
  | .none => []
  | .immByte => [.read (s.pc + 1)]
  | .immWord => [.read (s.pc + 1), .read (s.pc + 2)]
  | .offsetImm => [.read (s.pc + 1), .read (0xFF00#16 ||| n.setWidth 16)]
  | .deref r => [.read (s.pointer r)]

/-- The accesses of an LD to its destination, after those of its source, in order (R152). -/
def destinationAccesses (s : State) (n v : Byte) : Operand → List BusEvent
  | .deref r => [.write (s.pointer r) v]
  | .offsetImm => [.read (s.pc + 1), .write (0xFF00#16 ||| n.setWidth 16) v]
  | .reg _ => []
  | .immByte => []
  | .immWord => []
  | .none => []

/-- `LD r,r'`: instruction, destination, source (spec/42_ld.md R176). -/
def ldRegisterRows : List (Instr × Reg8 × Reg8) :=
  [(.ld_b_b, .b, .b), (.ld_b_c, .b, .c), (.ld_b_d, .b, .d), (.ld_b_e, .b, .e), (.ld_b_h, .b, .h), (.ld_b_l, .b, .l),
   (.ld_b_a, .b, .a), (.ld_c_b, .c, .b), (.ld_c_c, .c, .c), (.ld_c_d, .c, .d), (.ld_c_e, .c, .e), (.ld_c_h, .c, .h),
   (.ld_c_l, .c, .l), (.ld_c_a, .c, .a), (.ld_d_b, .d, .b), (.ld_d_c, .d, .c), (.ld_d_d, .d, .d), (.ld_d_e, .d, .e),
   (.ld_d_h, .d, .h), (.ld_d_l, .d, .l), (.ld_d_a, .d, .a), (.ld_e_b, .e, .b), (.ld_e_c, .e, .c), (.ld_e_d, .e, .d),
   (.ld_e_e, .e, .e), (.ld_e_h, .e, .h), (.ld_e_l, .e, .l), (.ld_e_a, .e, .a), (.ld_h_b, .h, .b), (.ld_h_c, .h, .c),
   (.ld_h_d, .h, .d), (.ld_h_e, .h, .e), (.ld_h_h, .h, .h), (.ld_h_l, .h, .l), (.ld_h_a, .h, .a), (.ld_l_b, .l, .b),
   (.ld_l_c, .l, .c), (.ld_l_d, .l, .d), (.ld_l_e, .l, .e), (.ld_l_h, .l, .h), (.ld_l_l, .l, .l), (.ld_l_a, .l, .a),
   (.ld_a_b, .a, .b), (.ld_a_c, .a, .c), (.ld_a_d, .a, .d), (.ld_a_e, .a, .e), (.ld_a_h, .a, .h), (.ld_a_l, .a, .l),
   (.ld_a_a, .a, .a)]

/-- Loads through a register: instruction, destination, the register that holds the address (R177, R181, R186). -/
def loadRows : List (Instr × Reg8 × RegName) :=
  [(.ld_a_mbc, .a, .word .bc), (.ld_a_mde, .a, .word .de), (.ld_b_mhl, .b, .word .hl),
   (.ld_c_mhl, .c, .word .hl), (.ld_d_mhl, .d, .word .hl), (.ld_e_mhl, .e, .word .hl),
   (.ld_h_mhl, .h, .word .hl), (.ld_l_mhl, .l, .word .hl), (.ld_a_mhl, .a, .word .hl),
   (.ld_a_mc, .a, .byte .c)]

/-- Stores through a register: instruction, source, the register that holds the address (R178, R182, R185). -/
def storeRows : List (Instr × Reg8 × RegName) :=
  [(.ld_mbc_a, .a, .word .bc), (.ld_mde_a, .a, .word .de), (.ld_mhl_b, .b, .word .hl),
   (.ld_mhl_c, .c, .word .hl), (.ld_mhl_d, .d, .word .hl), (.ld_mhl_e, .e, .word .hl),
   (.ld_mhl_h, .h, .word .hl), (.ld_mhl_l, .l, .word .hl), (.ld_mhl_a, .a, .word .hl),
   (.ld_mc_a, .a, .byte .c)]

/-- `LD r,d8`: instruction, destination (R179). -/
def ldImmediateRows : List (Instr × Reg8) :=
  [(.ld_b_d8, .b), (.ld_c_d8, .c), (.ld_d_d8, .d), (.ld_e_d8, .e), (.ld_h_d8, .h), (.ld_l_d8, .l), (.ld_a_d8, .a)]

/-- `ADD A,r`: instruction, source (spec/43_add.md R204). -/
def addRegisterRows : List (Instr × Reg8) :=
  [(.add_a_b, .b), (.add_a_c, .c), (.add_a_d, .d), (.add_a_e, .e), (.add_a_h, .h), (.add_a_l, .l), (.add_a_a, .a)]

/-- `ADD HL,rr`: instruction, source (R207). -/
def addPairRows : List (Instr × Reg16) :=
  [(.add_hl_bc, .bc), (.add_hl_de, .de), (.add_hl_hl, .hl), (.add_hl_sp, .sp)]

/-- The placeholder instructions (spec/44_placeholder_and_invalid.md R220, R222). -/
def placeholderRows : List Instr :=
  ([.inc_bc, .inc_b, .dec_b, .rlca, .ld_ma16_sp, .dec_bc, .inc_c, .dec_c, .rrca,
    .stop, .inc_de, .inc_d, .dec_d, .rla, .jr_r8, .dec_de, .inc_e, .dec_e,
    .rra, .jr_nz_r8, .ld_mhli_a, .inc_hl, .inc_h, .dec_h, .daa, .jr_z_r8, .ld_a_mhli,
    .dec_hl, .inc_l, .dec_l, .cpl, .jr_nc_r8, .ld_mhld_a, .inc_sp, .inc_mhl, .dec_mhl,
    .scf, .jr_c_r8, .ld_a_mhld, .dec_sp, .inc_a, .dec_a, .ccf, .halt, .adc_a_b,
    .adc_a_c, .adc_a_d, .adc_a_e, .adc_a_h, .adc_a_l] : List Instr) ++
  ([.adc_a_mhl, .adc_a_a, .sub_b, .sub_c, .sub_d, .sub_e, .sub_h, .sub_l, .sub_mhl,
    .sub_a, .sbc_a_b, .sbc_a_c, .sbc_a_d, .sbc_a_e, .sbc_a_h, .sbc_a_l, .sbc_a_mhl, .sbc_a_a,
    .and_b, .and_c, .and_d, .and_e, .and_h, .and_l, .and_mhl, .and_a, .xor_b,
    .xor_c, .xor_d, .xor_e, .xor_h, .xor_l, .xor_mhl, .xor_a, .or_b, .or_c,
    .or_d, .or_e, .or_h, .or_l, .or_mhl, .or_a, .cp_b, .cp_c, .cp_d,
    .cp_e, .cp_h, .cp_l, .cp_mhl, .cp_a] : List Instr) ++
  ([.ret_nz, .pop_bc, .jp_nz_a16, .jp_a16, .call_nz_a16, .push_bc, .rst_00h, .ret_z, .ret,
    .jp_z_a16, .prefix_cb, .call_z_a16, .call_a16, .adc_a_d8, .rst_08h, .ret_nc, .pop_de, .jp_nc_a16,
    .call_nc_a16, .push_de, .sub_d8, .rst_10h, .ret_c, .reti, .jp_c_a16, .call_c_a16, .sbc_a_d8,
    .rst_18h, .pop_hl, .push_hl, .and_d8, .rst_20h, .jp_mhl, .ld_ma16_a, .xor_d8, .rst_28h,
    .pop_af, .di, .push_af, .or_d8, .rst_30h, .ld_hl_sp_e8, .ld_a_ma16, .ei, .cp_d8,
    .rst_38h] : List Instr)

/-- The entries of the invalid sentinel (R221). -/
def invalidRows : List Instr :=
  [.invalid_d3, .invalid_db, .invalid_dd, .invalid_e3, .invalid_e4, .invalid_eb, .invalid_ec, .invalid_ed, .invalid_f4, .invalid_fc, .invalid_fd]

end Sys2Proof.Terms
end

