-- ==== Sys2Proof/Certificates/Slice0/Obligations.lean ====
section
/-! DEFINITION. The statements for the provers, one `def Obligations.<Name> : Prop` each. Where a docstring names a log
entry or a mark of the spec (decision, derived, general knowledge), that clause is the model's or the spec's own choice
and not a rule of the source. -/

open Sys2Proof Sys2Proof.Machine Sys2Proof.Terms

/-! ### Words and registers -/

/-- R20: the two halves of a Word are independent. -/
def Obligations.WordHalvesAreIndependent : Prop :=
  ∀ (w : Word) (h l : Byte),
    (∀ k < 8, (getHigh w).getLsbD k = w.getLsbD (8 + k)) ∧ (∀ k < 8, (getLow w).getLsbD k = w.getLsbD k) ∧
    getHigh (setHigh w h) = h ∧ getLow (setHigh w h) = getLow w ∧
    getLow (setLow w l) = l ∧ getHigh (setLow w l) = getHigh w ∧
    getHigh (setLow (setHigh w h) l) = h ∧ getLow (setLow (setHigh w h) l) = l ∧
    getHigh (setHigh (setLow w l) h) = h ∧ getLow (setHigh (setLow w l) h) = l

/-- R22: a bit operation changes or reads one bit and no other. -/
def Obligations.WordBitOperationsTouchOneBit : Prop :=
  ∀ (w : Word) (i : Fin 16),
    testBit w i = w.getLsbD i.val ∧
    (∀ k : Fin 16, testBit (setBit w i) k = if k = i then true else testBit w k) ∧
    (∀ k : Fin 16, testBit (unsetBit w i) k = if k = i then false else testBit w k)

/-- R24 to R27: a pair and its halves are the same storage, and no register aliases another: writing one 8-bit name
changes that half and nothing else, writing one 16-bit name changes that Word and nothing else. -/
def Obligations.PairsShareStorageWithTheirHalves : Prop :=
  ∀ s : State,
    s.get16 .af = s.get8 .a ++ s.get8 .f ∧ s.get16 .bc = s.get8 .b ++ s.get8 .c ∧
    s.get16 .de = s.get8 .d ++ s.get8 .e ∧ s.get16 .hl = s.get8 .h ++ s.get8 .l ∧
    (∀ (r : Reg8) (v : Byte), (s.set8 r v).get8 r = v ∧ (∀ q, q ≠ r → (s.set8 r v).get8 q = s.get8 q) ∧
      (s.set8 r v).sp = s.sp ∧ (s.set8 r v).pc = s.pc ∧ (s.set8 r v).bus = s.bus) ∧
    (∀ (r : Reg16) (w : Word), (s.set16 r w).get16 r = w ∧ (∀ q, q ≠ r → (s.set16 r w).get16 q = s.get16 q) ∧
      (s.set16 r w).bus = s.bus)

/-- The four accessors (R130 to R133): each works on names of its width and raises BadRegisterAccess on the others; a write
changes the named register and nothing else. That the fault carries the register name and the width asked for is the
model's choice, after the spec's decision D28 (log 17). -/
def Obligations.RegisterAccessorsCheckTheWidth : Prop :=
  ∀ s : State,
    (∀ r : Reg8, s.getByte (.byte r) = .ok (s.get8 r) ∧
      s.getWord (.byte r) = .error (.badRegisterAccess (.byte r) .word) ∧
      (∀ w, s.setWord (.byte r) w = .error (.badRegisterAccess (.byte r) .word)) ∧
      ∀ v, ∃ t, s.setByte (.byte r) v = .ok t ∧ t.get8 r = v ∧ registersKept (fun q => q = r) s t ∧
        t.pc = s.pc ∧ t.bus = s.bus) ∧
    (∀ r : Reg16, s.getWord (.word r) = .ok (s.get16 r) ∧
      s.getByte (.word r) = .error (.badRegisterAccess (.word r) .byte) ∧
      (∀ v, s.setByte (.word r) v = .error (.badRegisterAccess (.word r) .byte)) ∧
      ∀ w, ∃ t, s.setWord (.word r) w = .ok t ∧ t.get16 r = w ∧ (∀ q, q ≠ r → t.get16 q = s.get16 q) ∧
        t.bus = s.bus)

/-! ### Memory -/

/-- R65 to R67: inside its range the RAM device reads and writes, round-trips, and changes no other byte; outside it
faults with the address offered. `wf`: the range is legal and the contents are in canonical form (log 3), an invariant
stated below. -/
def Obligations.RamPartitionsTheAddresses : Prop :=
  ∀ (r : Ram) (a : Word), r.wf = true →
    (r.start.toNat ≤ a.toNat → a.toNat ≤ r.start.toNat + r.size - 1 →
      (∃ v, r.read a = .ok v) ∧
      ∀ v, ∃ r', r.write a v = .ok r' ∧ r'.read a = .ok v ∧ (∀ b, b ≠ a → r'.read b = r.read b)) ∧
    ((a.toNat < r.start.toNat ∨ r.start.toNat + r.size - 1 < a.toNat) →
      r.read a = .error (.outOfBounds a) ∧ ∀ v, r.write a v = .error (.outOfBounds a))

/-- R72 and R73: the Bus asks RAM first and, only when RAM rejects, passes on the peripheral's answer verbatim; a write
changes at most one device. -/
def Obligations.BusTriesRamThenThePeripheral : Prop :=
  ∀ (b : Bus) (a : Word),
    (∀ v, b.ram.read a = .ok v → b.read a = .ok v) ∧
    (∀ f, b.ram.read a = .error f → b.read a = b.per.read a) ∧
    (∀ v r, b.ram.write a v = .ok r → ∃ b', b.write a v = .ok b' ∧ b'.ram = r ∧ b'.per = b.per) ∧
    (∀ v f, b.ram.write a v = .error f →
      (∀ p, b.per.write a v = .ok p → ∃ b', b.write a v = .ok b' ∧ b'.ram = b.ram ∧ b'.per = p) ∧
      (∀ g, b.per.write a v = .error g → b.write a v = .error g))

/-- R74 and R75: an address in neither range faults with that address, and an address in RAM's range is RAM's whatever
the peripheral's range is: RAM answers the read, and the write is the one RAM makes, with the peripheral as it was. -/
def Obligations.UnmappedFaultsAndOverlapIsRam : Prop :=
  ∀ (b : Bus) (a : Word),
    (inRange b.ram.start b.ram.size a = false → inRange b.per.start b.per.size a = false →
      b.read a = .error (.outOfBounds a) ∧ ∀ v, b.write a v = .error (.outOfBounds a)) ∧
    (inRange b.ram.start b.ram.size a = true →
      b.read a = b.ram.read a ∧ (∃ v, b.read a = .ok v) ∧
      ∀ v, ∃ b', b.write a v = .ok b' ∧ b.ram.write a v = .ok b'.ram ∧ b'.per = b.per)

/-- A Bus access that faults carries the address offered, for every peripheral (R62, R69, R74). -/
def Obligations.BusFaultsCarryTheAddressOffered : Prop :=
  ∀ (b : Bus) (a : Word) (f : Fault),
    (b.read a = .error f → f = .outOfBounds a) ∧ ∀ v, b.write a v = .error f → f = .outOfBounds a

/-- R87 for plain memory: after a write, the address reads the byte written and every other address of RAM, or of both
devices when the peripheral is VRAM_DEFAULT, reads as before. -/
def Obligations.BusReadsTheLatestWrite : Prop :=
  ∀ (b b' : Bus) (a : Word) (v : Byte), b.ram.wf = true → b.per.wf = true → b.write a v = .ok b' →
    (b.plain a = true → b'.read a = .ok v) ∧
    ∀ x, x ≠ a → b.steady x = true → b'.read x = b.read x

/-- R77: a snapshot has the device's capacity, element `i` is the byte at base + `i` (the order is decision D29, log 22),
and taking it changes nothing. -/
def Obligations.SnapshotMirrorsTheDevice : Prop :=
  ∀ s : State, s.wf = true →
    (copyOf s .ram).2 = s ∧ (copyOf s .peripheralMemory).2 = s ∧
    (copyOf s .ram).1.length = s.bus.ram.size ∧
    (∀ i < s.bus.ram.size,
      s.bus.ram.read (s.bus.ram.start + BitVec.ofNat 16 i) = .ok ((copyOf s .ram).1.getD i 0#8)) ∧
    (s.bus.per.isVram = true →
      (copyOf s .peripheralMemory).1.length = s.bus.per.size ∧
      ∀ i < s.bus.per.size,
        s.bus.per.read (s.bus.per.start + BitVec.ofNat 16 i) = .ok ((copyOf s .peripheralMemory).1.getD i 0#8))

/-- The catch-up reaches the peripheral and leaves RAM (R252). That VRAM_DEFAULT's changes nothing, and that any other
peripheral's gives the state of its own free function, are the model's choice after the spec's decision D8 (log 7). -/
def Obligations.CatchupReachesOnlyThePeripheral : Prop :=
  ∀ (b : Bus) (t : CycleTime),
    (b.catchup t).ram = b.ram ∧ (b.catchup t).per = b.per.catchup t ∧
    (∀ m, b.per.unit = .vram m → b.catchup t = b) ∧
    ∀ d, b.per.unit = .device d → (b.catchup t).per.unit = .device (Config.deviceCatchup d t)

/-- R61 and R84: a read changes nothing in RAM and no device's range; it changes nothing at all where it fails, in RAM, or
with VRAM_DEFAULT; a read that another peripheral answers leaves the state that the peripheral gives it (free values,
logs 7 and 8). -/
def Obligations.ReadsReachOnlyThePeripheral : Prop :=
  ∀ (b : Bus) (a : Word),
    (b.afterRead a).ram = b.ram ∧ (b.afterRead a).per.start = b.per.start ∧ (b.afterRead a).per.size = b.per.size ∧
    (∀ f, b.read a = .error f → b.afterRead a = b) ∧ (b.steady a = true → b.afterRead a = b) ∧
    ∀ d, b.ram.holds a = false → b.per.holds a = true → b.per.unit = .device d →
      (b.read a = match Config.deviceRead d a with
        | some v => .ok v
        | none => .error (.outOfBounds a)) ∧
      (b.afterRead a).per.unit = .device (match Config.deviceRead d a with
        | some _ => Config.deviceAfterRead d a
        | none => d)

/-! ### Encoding -/

/-- Decode and encode agree: the code of every instruction, with every operand byte its format admits and whatever
follows it, decodes to that instruction and those bytes (R100, R101, R104). -/
def Obligations.DecodingInvertsEncoding : Prop :=
  ∀ (c : Code) (rest : List Byte), c.wf = true → decode (encode c ++ rest) = .ok (c, rest)

/-- Encode and decode agree: what decodes was the code of a well-formed instruction, with no byte dropped. -/
def Obligations.EncodingInvertsDecoding : Prop :=
  ∀ (bytes rest : List Byte) (c : Code), decode bytes = .ok (c, rest) → c.wf = true ∧ encode c ++ rest = bytes

/-- A few words of R112, R176, R179, R184, R187, R204, R207, R220, R221, written out: each decodes to the instruction it
stands for. The assignment of opcode values is from general knowledge (D1, log 9). -/
def Obligations.SampleWordsDecode : Prop :=
  decode [0x00#8] = .ok (⟨.nop, []⟩, []) ∧
  decode [0b01111000#8] = .ok (⟨.ld_a_b, []⟩, []) ∧
  decode [0b00111110#8, 0x0A#8] = .ok (⟨.ld_a_d8, [0x0A#8]⟩, []) ∧
  decode [0xF0#8, 0x80#8, 0x77#8] = .ok (⟨.ldh_a_ma8, [0x80#8]⟩, [0x77#8]) ∧
  decode [0x01#8, 0x12#8, 0x34#8] = .ok (⟨.ld_bc_d16, [0x12#8, 0x34#8]⟩, []) ∧
  decode [0b10000000#8] = .ok (⟨.add_a_b, []⟩, []) ∧
  decode [0b00111001#8] = .ok (⟨.add_hl_sp, []⟩, []) ∧
  decode [0x76#8] = .ok (⟨.halt, []⟩, []) ∧
  decode [0xD3#8] = .ok (⟨.invalid_d3, []⟩, []) ∧
  decode [0x3E#8] = .error (.missingOperand .ld_a_d8) ∧ decode [] = .error .noOpcode

/-- The default table meets R110 (a) to (g), and its classes have the counts of R114 (D1, log 9). -/
def Obligations.DefaultTableMeetsItsConditions : Prop :=
  (∀ op : Byte, (optableDefault op).wf = true ∧ (optableDefault op).wfDefault = true) ∧
  (∀ i : Instr, ∃ op : Byte, decodeOpcode op = i) ∧
  (opcodeList.filter fun i => i.runs).length = 93 ∧
  (opcodeList.filter fun i => (descriptorOf i).kind.specified && !i.runs).length = 6 ∧
  (opcodeList.filter fun i => (descriptorOf i).kind == .invalid).length = 11 ∧
  (opcodeList.filter fun i => !(descriptorOf i).kind.specified && (descriptorOf i).kind != .invalid).length = 146

/-! ### The step -/

/-- When the Bus answers at PC with the opcode byte of a well-formed code, the step is `exec` of its instruction on the
machine that the fetch leaves; when it does not answer, the step is that fault at PC (R144, R145, R147). The machine the
fetch leaves is the model's reading (log 8): nothing changes where PC is in RAM or the peripheral is VRAM_DEFAULT.
`decodeOpcode` is the spec's default table (D1, log 9). The advance, the catch-up and the returned cost stand inside
`exec`. -/
def Obligations.StepRunsTheDecodedInstruction : Prop :=
  ∀ s : State,
    (∀ (c : Code) (rest bytes : List Byte), decode bytes = .ok (c, rest) →
      (∀ op, bytes.head? = some op → s.bus.read s.pc = .ok op) → step s = exec c.instr (s.afterRead s.pc)) ∧
    (∀ op, s.bus.read s.pc = .ok op → step s = exec (decodeOpcode op) (s.afterRead s.pc)) ∧
    (∀ f, s.bus.read s.pc = .error f → step s = .fault (.outOfBounds s.pc)) ∧
    (s.afterRead s.pc = { s with bus := s.bus.afterRead s.pc }) ∧
    (s.bus.steady s.pc = true → s.afterRead s.pc = s)

/-- The step is R155's over the default table (D1, log 9), and the trace of Bus events belongs to it. -/
def Obligations.StepIsTheTableStep : Prop :=
  ∀ s : State, stepWith optableDefault s = step s ∧ deliver (stepTrace s) = step s

/-! ### The instructions of the default table: where each completes, what it does, what it leaves

Widths other than NOP's, cycle costs and opcode values are the spec's default table (D1, log 9); the rules of the forms
are marked [derived] in the spec. The end of a step is `stepEnds`. -/

/-- `NOP` completes in every state and does nothing but end the step (R170; cycle cost log 9). -/
def Obligations.NopOnlyEndsTheStep : Prop :=
  opcodeOf .nop = 0x00#8 ∧
  ∀ s : State, ∃ t, exec .nop s = .next t ∧ registersKept (fun _ => False) s t ∧ storesNothing 1 4 s.bus s t

/-- `LD r,r'` completes in every state: the destination takes the source's byte and nothing else changes, F included
(R176). -/
def Obligations.LdRegisterMovesAByte : Prop :=
  ∀ i dst src, (i, dst, src) ∈ ldRegisterRows → ∀ s : State, ∃ t, exec i s = .next t ∧
    t.get8 dst = s.get8 src ∧ registersKept (fun q => q = dst) s t ∧ storesNothing 1 4 s.bus s t

/-- `LD r,(HL)`, `LD A,(BC)`, `LD A,(DE)`, `LD A,(C)` (R177, R181, R186): the byte the Bus answers at the register's
address, zero-extended for C, goes to the destination; where the Bus does not answer, the step faults with that
address. -/
def Obligations.LoadThroughARegister : Prop :=
  ∀ i dst p, (i, dst, p) ∈ loadRows → ∀ s : State,
    (∀ r, p = .word r → s.pointer p = s.get16 r) ∧ (∀ r, p = .byte r → s.pointer p = 0x00#8 ++ s.get8 r) ∧
    (∀ v, s.bus.read (s.pointer p) = .ok v → ∃ t, exec i s = .next t ∧
      t.get8 dst = v ∧ registersKept (fun q => q = dst) s t ∧
      storesNothing 1 8 (s.bus.afterRead (s.pointer p)) s t) ∧
    (∀ f, s.bus.read (s.pointer p) = .error f → exec i s = .fault (.outOfBounds (s.pointer p)))

/-- `LD (HL),r`, `LD (BC),A`, `LD (DE),A`, `LD (C),A` (R178, R182, R185): the register's byte goes to the register's
address, zero-extended for C; it completes wherever the address is plain memory or the device takes the byte, and else
faults with that address. -/
def Obligations.StoreThroughARegister : Prop :=
  ∀ i r p, (i, r, p) ∈ storeRows → ∀ s : State,
    (∀ q, p = .word q → s.pointer p = s.get16 q) ∧ (∀ q, p = .byte q → s.pointer p = 0x00#8 ++ s.get8 q) ∧
    (s.bus.plain (s.pointer p) = true → ∃ t, exec i s = .next t) ∧
    (∀ b, s.bus.write (s.pointer p) (s.get8 r) = .ok b → ∃ t, exec i s = .next t ∧
      storesByte 1 8 b (s.pointer p) (s.get8 r) s t) ∧
    (∀ f, s.bus.write (s.pointer p) (s.get8 r) = .error f → exec i s = .fault (.outOfBounds (s.pointer p)))

/-- `LD r,d8` (R179): the byte after the opcode goes to the destination; an unmapped immediate faults. The immediate's
address wraps (D10, log 13). -/
def Obligations.LdImmediateLoadsTheNextByte : Prop :=
  ∀ i dst, (i, dst) ∈ ldImmediateRows → ∀ s : State,
    (∀ v, s.bus.read (s.pc + 1) = .ok v → ∃ t, exec i s = .next t ∧
      t.get8 dst = v ∧ registersKept (fun q => q = dst) s t ∧ storesNothing 2 8 (s.bus.afterRead (s.pc + 1)) s t) ∧
    (∀ f, s.bus.read (s.pc + 1) = .error f → exec i s = .fault (.outOfBounds (s.pc + 1)))

/-- `LD (HL),d8` (R180): the byte after the opcode goes to the address in HL. -/
def Obligations.LdHlImmediateStoresTheNextByte : Prop :=
  ∀ s : State,
    (∀ v, s.bus.read (s.pc + 1) = .ok v →
      (s.bus.plain s.hl = true → ∃ t, exec .ld_mhl_d8 s = .next t) ∧
      (∀ b, (s.bus.afterRead (s.pc + 1)).write s.hl v = .ok b → ∃ t, exec .ld_mhl_d8 s = .next t ∧
        storesByte 2 12 b s.hl v s t) ∧
      (∀ f, (s.bus.afterRead (s.pc + 1)).write s.hl v = .error f → exec .ld_mhl_d8 s = .fault (.outOfBounds s.hl))) ∧
    (∀ f, s.bus.read (s.pc + 1) = .error f → exec .ld_mhl_d8 s = .fault (.outOfBounds (s.pc + 1)))

/-- `LDH (a8),A` (R183): A goes to `0xFF00 | n`, `n` the byte after the opcode. -/
def Obligations.LdhStoresAIntoTheHighPage : Prop :=
  ∀ s : State,
    (∀ n, s.bus.read (s.pc + 1) = .ok n →
      (s.bus.plain (0xFF#8 ++ n) = true → ∃ t, exec .ldh_ma8_a s = .next t) ∧
      (∀ b, (s.bus.afterRead (s.pc + 1)).write (0xFF#8 ++ n) (s.get8 .a) = .ok b → ∃ t, exec .ldh_ma8_a s = .next t ∧
        storesByte 2 12 b (0xFF#8 ++ n) (s.get8 .a) s t) ∧
      (∀ f, (s.bus.afterRead (s.pc + 1)).write (0xFF#8 ++ n) (s.get8 .a) = .error f →
        exec .ldh_ma8_a s = .fault (.outOfBounds (0xFF#8 ++ n)))) ∧
    (∀ f, s.bus.read (s.pc + 1) = .error f → exec .ldh_ma8_a s = .fault (.outOfBounds (s.pc + 1)))

/-- `LDH A,(a8)` (R184): A takes the byte at `0xFF00 | n`; both reads can independently fault. -/
def Obligations.LdhLoadsAFromTheHighPage : Prop :=
  ∀ s : State,
    (∀ n, s.bus.read (s.pc + 1) = .ok n →
      (∀ v, (s.bus.afterRead (s.pc + 1)).read (0xFF#8 ++ n) = .ok v → ∃ t, exec .ldh_a_ma8 s = .next t ∧
        t.get8 .a = v ∧ registersKept (fun q => q = .a) s t ∧
        storesNothing 2 12 ((s.bus.afterRead (s.pc + 1)).afterRead (0xFF#8 ++ n)) s t) ∧
      (∀ f, (s.bus.afterRead (s.pc + 1)).read (0xFF#8 ++ n) = .error f → exec .ldh_a_ma8 s = .fault (.outOfBounds (0xFF#8 ++ n)))) ∧
    (∀ f, s.bus.read (s.pc + 1) = .error f → exec .ldh_a_ma8 s = .fault (.outOfBounds (s.pc + 1)))

/-- `LD rr,d16`, `LD SP,HL`, `ADD SP,e8` stop on every path (R187, R188, R208): operand bytes that are not mapped fault
first, and else the widths do not fit, IllegalInstruction at PC (the address is D22, log 16). -/
def Obligations.WidthMismatchAlwaysFaults : Prop :=
  (∀ i, i ∈ [Instr.ld_bc_d16, .ld_de_d16, .ld_hl_d16, .ld_sp_d16] → ∀ s : State,
    (∀ f, s.bus.read (s.pc + 1) = .error f → exec i s = .fault (.outOfBounds (s.pc + 1))) ∧
    (∀ h, s.bus.read (s.pc + 1) = .ok h →
      (∀ f, (s.bus.afterRead (s.pc + 1)).read (s.pc + 2) = .error f → exec i s = .fault (.outOfBounds (s.pc + 2))) ∧
      (∀ l, (s.bus.afterRead (s.pc + 1)).read (s.pc + 2) = .ok l → exec i s = .fault (.illegalInstruction s.pc)))) ∧
  (∀ s : State, exec .ld_sp_hl s = .fault (.illegalInstruction s.pc)) ∧
  ∀ s : State,
    (∀ f, s.bus.read (s.pc + 1) = .error f → exec .add_sp_e8 s = .fault (.outOfBounds (s.pc + 1))) ∧
    (∀ v, s.bus.read (s.pc + 1) = .ok v → exec .add_sp_e8 s = .fault (.illegalInstruction s.pc))

/-- `ADD A,r` completes in every state with distinct flag positions: sum, flags and everything left (R204, R201; Z is
never cleared, D4, log 11). -/
def Obligations.AddRegisterToA : Prop :=
  ∀ i r, (i, r) ∈ addRegisterRows → ∀ s : State, s.flagBits.distinct = true → ∃ t, exec i s = .next t ∧
    addedToA (s.get8 r) s t ∧ storesNothing 1 4 s.bus s t

/-- `ADD A,(HL)` (R205; Z log 11): as `ADD A,r` with the byte the Bus answers at HL; where it does not answer, the step
faults with that address. -/
def Obligations.AddMemoryToA : Prop :=
  ∀ s : State, s.flagBits.distinct = true →
    (∀ v, s.bus.read s.hl = .ok v → ∃ t, exec .add_a_mhl s = .next t ∧ addedToA v s t ∧
      storesNothing 1 8 (s.bus.afterRead s.hl) s t) ∧
    (∀ f, s.bus.read s.hl = .error f → exec .add_a_mhl s = .fault (.outOfBounds s.hl))

/-- `ADD A,d8` (R206; Z log 11): the immediate is unsigned. -/
def Obligations.AddImmediateToA : Prop :=
  ∀ s : State, s.flagBits.distinct = true →
    (∀ v, s.bus.read (s.pc + 1) = .ok v → ∃ t, exec .add_a_d8 s = .next t ∧ addedToA v s t ∧
      storesNothing 2 8 (s.bus.afterRead (s.pc + 1)) s t) ∧
    (∀ f, s.bus.read (s.pc + 1) = .error f → exec .add_a_d8 s = .fault (.outOfBounds (s.pc + 1)))

/-- `ADD HL,rr` completes in every state with distinct flag positions (R207, R202; Z log 11). -/
def Obligations.AddPairToHl : Prop :=
  ∀ i r, (i, r) ∈ addPairRows → ∀ s : State, s.flagBits.distinct = true → ∃ t, exec i s = .next t ∧
    addedToHl (s.get16 r) s t ∧ storesNothing 1 8 s.bus s t

/-- Every placeholder stops at its own address and reads no operand byte (R220; the name of the stop is D14, log 15). -/
def Obligations.PlaceholdersStopUnimplemented : Prop :=
  ∀ i, i ∈ placeholderRows → ∀ s : State, exec i s = .fault (.unimplemented s.pc) ∧
    (s.bus.read s.pc = .ok (opcodeOf i) →
      step s = .fault (.unimplemented s.pc) ∧ (stepTrace s).events = [.read s.pc])

/-- Every entry of the invalid sentinel raises IllegalInstruction at its own address and reads no operand byte (R221,
R146; the opcode values are log 9). -/
def Obligations.InvalidOpcodesAreIllegal : Prop :=
  ∀ i, i ∈ invalidRows → ∀ s : State, exec i s = .fault (.illegalInstruction s.pc) ∧
    (s.bus.read s.pc = .ok (opcodeOf i) →
      step s = .fault (.illegalInstruction s.pc) ∧ (stepTrace s).events = [.read s.pc])

/-! ### The operation kinds, for any operand descriptors -/

/-- What each operand kind resolves to and the accesses it makes, in order (R136 to R140). The machine the reads leave, in
which only the peripheral can have seen them, is the model's reading (log 8); that `ia + 1` and `ia + 2` wrap at 0xFFFF is
the spec's decision D10 (log 13). -/
def Obligations.OperandsResolve : Prop :=
  ∀ (s : State) (ia : Word),
    (∀ r, resolve s (.reg (.byte r)) ia = ⟨[], .ok (.byte (s.get8 r), s)⟩) ∧
    (∀ r, resolve s (.reg (.word r)) ia = ⟨[], .ok (.word (s.get16 r), s)⟩) ∧
    (∀ p a, ((∃ r, p = .word r ∧ a = s.get16 r) ∨ ∃ r, p = .byte r ∧ a = 0x00#8 ++ s.get8 r) →
      (resolve s (.deref p) ia).events = [.read a] ∧
      (∀ v, s.bus.read a = .ok v → (resolve s (.deref p) ia).result = .ok (.byte v, s.afterRead a)) ∧
      (∀ f, s.bus.read a = .error f → (resolve s (.deref p) ia).result = .error f)) ∧
    ((∀ v, s.bus.read (ia + 1) = .ok v → resolve s .immByte ia = ⟨[.read (ia + 1)], .ok (.byte v, s.afterRead (ia + 1))⟩) ∧
      (∀ f, s.bus.read (ia + 1) = .error f → resolve s .immByte ia = ⟨[.read (ia + 1)], .error f⟩)) ∧
    ((∀ n, s.bus.read (ia + 1) = .ok n →
        (∀ v, (s.bus.afterRead (ia + 1)).read (0xFF#8 ++ n) = .ok v →
          resolve s .offsetImm ia = ⟨[.read (ia + 1), .read (0xFF#8 ++ n)],
            .ok (.byte v, (s.afterRead (ia + 1)).afterRead (0xFF#8 ++ n))⟩) ∧
        (∀ f, (s.bus.afterRead (ia + 1)).read (0xFF#8 ++ n) = .error f →
          resolve s .offsetImm ia = ⟨[.read (ia + 1), .read (0xFF#8 ++ n)], .error f⟩)) ∧
      (∀ f, s.bus.read (ia + 1) = .error f → resolve s .offsetImm ia = ⟨[.read (ia + 1)], .error f⟩)) ∧
    (∀ h, s.bus.read (ia + 1) = .ok h →
        (∀ l, (s.bus.afterRead (ia + 1)).read (ia + 2) = .ok l →
          resolve s .immWord ia = ⟨[.read (ia + 1), .read (ia + 2)],
            .ok (.word (h ++ l), (s.afterRead (ia + 1)).afterRead (ia + 2))⟩) ∧
        (∀ f, (s.bus.afterRead (ia + 1)).read (ia + 2) = .error f →
          resolve s .immWord ia = ⟨[.read (ia + 1), .read (ia + 2)], .error f⟩)) ∧
    (∀ f, s.bus.read (ia + 1) = .error f → resolve s .immWord ia = ⟨[.read (ia + 1)], .error f⟩)

/-- R141 and R142: an absent operand and a value of the wrong width raise IllegalInstruction at the instruction address
(D13, D22, logs 14 and 16); a value of the right width passes unchanged. -/
def Obligations.NarrowingNeverReinterprets : Prop :=
  ∀ (s : State) (ia w : Word) (b : Byte),
    (resolve s .none ia).result = .error (.illegalInstruction ia) ∧
    (expectByte (.byte b) ia).result = .ok b ∧ (expectByte (.word w) ia).result = .error (.illegalInstruction ia) ∧
    (expectWord (.word w) ia).result = .ok w ∧ (expectWord (.byte b) ia).result = .error (.illegalInstruction ia)

/-- R175 and R189: LD with any operand descriptors, each of its outcomes; `u` is the machine the source's reads leave. The
faults for an immediate or absent
destination and the address IllegalInstruction carries are D12, D13, D22 (logs 14 and 16). -/
def Obligations.LdMovesAByteForAnyOperands : Prop :=
  ∀ (dst src : Operand) (w c : Nat) (s : State),
    (∀ f, (resolve s src s.pc).result = .error f → deliver (runLd dst src w c s) = .fault f) ∧
    (∀ x u, (resolve s src s.pc).result = .ok (.word x, u) →
      deliver (runLd dst src w c s) = .fault (.illegalInstruction s.pc)) ∧
    ∀ v u, (resolve s src s.pc).result = .ok (.byte v, u) →
      (∀ r, dst = .reg (.byte r) → ∃ t, deliver (runLd dst src w c s) = .next t ∧
        t.get8 r = v ∧ registersKept (fun q => q = r) s t ∧ storesNothing w c u.bus s t) ∧
      (∀ r, dst = .reg (.word r) → deliver (runLd dst src w c s) = .fault (.badRegisterAccess (.word r) .byte)) ∧
      (∀ p, dst = .deref p →
        (∀ b, u.bus.write (s.pointer p) v = .ok b → ∃ t, deliver (runLd dst src w c s) = .next t ∧
          storesByte w c b (s.pointer p) v s t) ∧
        (∀ f, u.bus.write (s.pointer p) v = .error f →
          deliver (runLd dst src w c s) = .fault (.outOfBounds (s.pointer p)))) ∧
      (dst = .offsetImm →
        (∀ f, u.bus.read (s.pc + 1) = .error f →
          deliver (runLd dst src w c s) = .fault (.outOfBounds (s.pc + 1))) ∧
        ∀ n, u.bus.read (s.pc + 1) = .ok n →
          (∀ b, (u.bus.afterRead (s.pc + 1)).write (0xFF#8 ++ n) v = .ok b → ∃ t, deliver (runLd dst src w c s) = .next t ∧
            storesByte w c b (0xFF#8 ++ n) v s t) ∧
          (∀ f, (u.bus.afterRead (s.pc + 1)).write (0xFF#8 ++ n) v = .error f →
            deliver (runLd dst src w c s) = .fault (.outOfBounds (0xFF#8 ++ n)))) ∧
      (dst = .immByte ∨ dst = .immWord ∨ dst = .none →
        deliver (runLd dst src w c s) = .fault (.illegalInstruction s.pc))

/-- R201: the 8-bit ADD's result, H, C and N, whatever the flags were, for every destination but F (which R110 (c)
excludes, U6). -/
def Obligations.ByteAdditionArithmetic : Prop :=
  ∀ (r : Reg8) (src : Operand) (w c : Nat) (s u : State) (b : Byte), r ≠ .f → s.flagBits.distinct = true →
    (resolve s src s.pc).result = .ok (.byte b, u) → ∃ t,
      deliver (runAdd (.reg (.byte r)) src w c s) = .next t ∧
      (t.get8 r).toNat = ((s.get8 r).toNat + b.toNat) % 256 ∧
      (t.flag .h = true ↔ (s.get8 r).toNat % 16 + b.toNat % 16 ≥ 16) ∧
      (t.flag .c = true ↔ (s.get8 r).toNat + b.toNat ≥ 256) ∧ t.flag .n = false

/-- R202: the 16-bit ADD's result, H, C and N, whatever the flags were, for every destination but AF and PC (which
R110 (c) excludes, U6). -/
def Obligations.WordAdditionArithmetic : Prop :=
  ∀ (r : Reg16) (src : Operand) (w c : Nat) (s u : State) (b : Word), r ≠ .af → r ≠ .pc →
    s.flagBits.distinct = true → (resolve s src s.pc).result = .ok (.word b, u) → ∃ t,
      deliver (runAdd (.reg (.word r)) src w c s) = .next t ∧
      (t.get16 r).toNat = ((s.get16 r).toNat + b.toNat) % 65536 ∧
      (t.flag .h = true ↔ (s.get16 r).toNat % 4096 + b.toNat % 4096 ≥ 4096) ∧
      (t.flag .c = true ↔ (s.get16 r).toNat + b.toNat ≥ 65536) ∧ t.flag .n = false

/-- R209: ADD with a destination that is no direct register stops before any source read; a source of the other width
stops after it; a source that faults passes its fault on (the address is D22, log 16). -/
def Obligations.AddRefusesOtherOperands : Prop :=
  ∀ (dst src : Operand) (w c : Nat) (s : State),
    ((∀ r, dst ≠ .reg r) → runAdd dst src w c s = ⟨[], .error (.illegalInstruction s.pc)⟩) ∧
    (∀ r f, dst = .reg r → (resolve s src s.pc).result = .error f → deliver (runAdd dst src w c s) = .fault f) ∧
    (∀ r x u, dst = .reg (.byte r) → (resolve s src s.pc).result = .ok (.word x, u) →
      runAdd dst src w c s = ⟨(resolve s src s.pc).events, .error (.illegalInstruction s.pc)⟩) ∧
    (∀ r x u, dst = .reg (.word r) → (resolve s src s.pc).result = .ok (.byte x, u) →
      runAdd dst src w c s = ⟨(resolve s src s.pc).events, .error (.illegalInstruction s.pc)⟩)

/-- A step over any opcode table: an entry that R110 (b) or (c) excludes is refused (U6, D21, log 27), an INVALID entry is
IllegalInstruction at PC, a placeholder is Unimplemented at PC, a NOP entry ends the step and no more. -/
def Obligations.AnyTableDispatchesOnTheKind : Prop :=
  ∀ (table : Optable) (s : State) (op : Byte), s.bus.read s.pc = .ok op →
    ((table op).wf = false → stepWith table s = .refused .tableRefused) ∧
    ((table op).wf = true →
      ((table op).kind = .invalid → stepWith table s = .fault (.illegalInstruction s.pc)) ∧
      (∀ k, (table op).kind = .placeholder k → stepWith table s = .fault (.unimplemented s.pc)) ∧
      ((table op).kind = .nop → ∃ t, stepWith table s = .next t ∧ registersKept (fun _ => False) s t ∧
        storesNothing (table op).width (table op).cycles (s.bus.afterRead s.pc) s t) ∧
      ((table op).kind = .ld → stepWith table s =
        deliver (runLd (table op).dst (table op).src (table op).width (table op).cycles (s.afterRead s.pc))) ∧
      ((table op).kind = .add → stepWith table s =
        deliver (runAdd (table op).dst (table op).src (table op).width (table op).cycles (s.afterRead s.pc))))

/-! ### The whole machine -/

/-- Every step keeps the machine well formed: both device ranges legal, both byte arrays in canonical form (log 3), the
flag positions distinct, the frequency at least 1 (R6). -/
def Obligations.StepKeepsTheMachineWellFormed : Prop :=
  ∀ s t : State, s.wf = true → step s = .next t → t.wf = true

/-- The reset state is well formed and its PC is an address the Bus maps (R273 (a), (b)); its values are the log's
entries 1 to 6. -/
def Obligations.ResetIsAUsableLaunch : Prop :=
  State.reset.wf = true ∧ State.reset.bus.plain State.reset.pc = true

/-- R44 to R46, R271: construction with parameters that meet the constraints of R6, spelled out in `launchLegal` (contents
in the model's form, log 3), gives every register, byte and parameter its launch value, with no notification sent and
nothing returned (log 20); with others it is refused (log 26). -/
def Obligations.ConstructionTakesTheLaunchValues : Prop :=
  ∀ (p : Params) (i : Init),
    (launchLegal p i → ∃ s, construct p i = .next s ∧
      s.get16 .af = i.af ∧ s.get16 .bc = i.bc ∧ s.get16 .de = i.de ∧ s.get16 .hl = i.hl ∧
      s.get16 .sp = i.sp ∧ s.get16 .pc = i.pc ∧
      s.bus.ram = ⟨p.ramStart, p.ramSize, i.ram⟩ ∧ s.bus.per = ⟨p.perStart, p.perSize, i.per⟩ ∧
      s.freqHz = p.freqHz ∧ s.flagBits = p.flagBits ∧ s.intHook = p.intHook ∧ s.notices = [] ∧ s.returned = none) ∧
    (¬ launchLegal p i → construct p i = .refused .parametersRefused)

/-- No step changes a construction parameter, and a peripheral stays the kind it is (R37, R43). -/
def Obligations.ParametersNeverChange : Prop :=
  ∀ s t : State, step s = .next t → paramsKept s t ∧ t.bus.per.isVram = s.bus.per.isVram

/-- A successful step moves PC forward by the width of the instruction fetched, 1, 2 or 3, with wrap (R148, R223; the
widths are log 9, the wrap log 13). -/
def Obligations.StepAdvancesPcByTheWidth : Prop :=
  ∀ s t : State, step s = .next t → ∃ op, s.bus.read s.pc = .ok op ∧
    t.pc = s.pc + BitVec.ofNat 16 (descriptorOf (decodeOpcode op)).width ∧
    ((descriptorOf (decodeOpcode op)).width = 1 ∨ (descriptorOf (decodeOpcode op)).width = 2 ∨
      (descriptorOf (decodeOpcode op)).width = 3)

/-- No instruction of the default table gives SP a value (R273 (g), [derived]; log 9). -/
def Obligations.NoStepWritesSp : Prop :=
  ∀ s t : State, step s = .next t → t.sp = s.sp

/-- Under the default table no step clears Z once it is set (R203, R273 (f), [derived]; Z sticky is D4, log 11). -/
def Obligations.NoStepClearsZero : Prop :=
  ∀ s t : State, s.flagBits.distinct = true → step s = .next t → s.flag .z = true → t.flag .z = true

/-- No step of the default table changes a bit of F that is no flag (R34; D3, log 10), and no step but an ADD changes F
at all (R35). -/
def Obligations.OnlyAddWritesF : Prop :=
  ∀ s t : State, step s = .next t → unusedFlagBitsKept s t ∧
    ∀ op, s.bus.read s.pc = .ok op → (descriptorOf (decodeOpcode op)).kind ≠ .add → t.get8 .f = s.get8 .f

/-- Which faults a step of the default table raises and what they carry (R231 to R234; D14, D22, logs 15 and 16):
IllegalInstruction and Unimplemented carry PC, BadRegisterAccess never occurs, and OutOfBounds carries the address of the
last access offered to the Bus, which the Bus, as the reads before it leave it, rejects. -/
def Obligations.FaultsOfAStep : Prop :=
  ∀ (s : State) (f : Fault), step s = .fault f →
    f = .illegalInstruction s.pc ∨ f = .unimplemented s.pc ∨
    ∃ reads a, f = .outOfBounds a ∧
      (((stepTrace s).events = reads.map .read ++ [.read a] ∧ (s.bus.afterReads reads).read a = .error f) ∨
        ∃ v, (stepTrace s).events = reads.map .read ++ [.write a v] ∧ (s.bus.afterReads reads).write a v = .error f)

/-- R254: a successful step sends the catch-up exactly once, as its last Bus event, with the frequency and the
instruction's cost; a faulting step sends none (D19, log 21). -/
def Obligations.CatchupOnceAndLast : Prop :=
  ∀ s : State,
    (∀ t, step s = .next t → ∃ op accesses, s.bus.read s.pc = .ok op ∧
      (stepTrace s).events = accesses ++ [.catchup ⟨s.freqHz, (descriptorOf (decodeOpcode op)).cycles⟩] ∧
      (∀ e ∈ accesses, isCatchup e = false) ∧
      t.notices = ⟨s.freqHz, (descriptorOf (decodeOpcode op)).cycles⟩ :: s.notices ∧
      t.returned = some (descriptorOf (decodeOpcode op)).cycles) ∧
    (∀ f, step s = .fault f → ∀ e ∈ (stepTrace s).events, isCatchup e = false)

/-- R152 and R154: a step of the default table makes at most three Bus accesses, the first at PC, and a descriptor of any
table at most four after the opcode read ([derived]; log 23). -/
def Obligations.AccessesAreBounded : Prop :=
  (∀ s : State, (stepTrace s).events.head? = some (.read s.pc) ∧
    ((stepTrace s).events.filter fun e => !isCatchup e).length ≤ 3) ∧
  ∀ (d : Descriptor) (s : State), ((runDescriptor d s).events.filter fun e => !isCatchup e).length ≤ 4

/-- R152: the Bus events of a successful step, in order, by instruction form: the opcode read, the source's accesses, an
LD destination's, the catch-up (the order is D25, log 23). -/
def Obligations.AccessesComeInOrder : Prop :=
  ∀ (s t : State) (op : Byte), s.bus.read s.pc = .ok op → step s = .next t →
    let d := descriptorOf (decodeOpcode op)
    ((d.kind = .nop → (stepTrace s).events = [.read s.pc, .catchup ⟨s.freqHz, d.cycles⟩]) ∧
    (d.kind = .add → ∃ n, (stepTrace s).events =
      .read s.pc :: sourceAccesses s n d.src ++ [.catchup ⟨s.freqHz, d.cycles⟩] ∧
      (d.src = .offsetImm → (s.bus.afterRead s.pc).read (s.pc + 1) = .ok n)) ∧
    (d.kind = .ld → ∃ n v u, (resolve (s.afterRead s.pc) d.src s.pc).result = .ok (.byte v, u) ∧ (stepTrace s).events =
      .read s.pc :: sourceAccesses s n d.src ++ destinationAccesses s n v d.dst ++
        [.catchup ⟨s.freqHz, d.cycles⟩] ∧
      (d.src = .offsetImm ∨ d.dst = .offsetImm → (s.bus.afterRead s.pc).read (s.pc + 1) = .ok n)))

/-- R90: a byte stored by a step in plain memory is the opcode the next step decodes when PC points at it. -/
def Obligations.StoresAreSeenByTheNextFetch : Prop :=
  ∀ (s t : State) (a : Word) (v : Byte), s.wf = true → step s = .next t → .write a v ∈ (stepTrace s).events →
    s.bus.plain a = true → t.pc = a → step t = exec (decodeOpcode v) t

/-- R36: no step of the default table reads a flag: two states that differ only in F step to states that differ only in F,
or to the same fault. -/
def Obligations.FlagsAreNeverRead : Prop :=
  ∀ (s : State) (x : Byte), sameUpTo forgetFlags (step s) (step (s.set8 .f x))

/-- One step under any peripheral (R277, R278): two states that differ only in the clock frequency and the notifications
recorded (log 20) step to states that differ at most in them and in the state of a peripheral that is not VRAM_DEFAULT,
which its catch-up may have told the time, or to the same fault. -/
def Obligations.TimeIsNeverRead : Prop :=
  ∀ (s : State) (f : Nat) (ns : List CycleTime),
    sameUpTo forgetTime (step s) (step { s with freqHz := f, notices := ns })

/-- R242: `interrupt()` changes no state; with the default INT_HOOK it answers that nothing is pending (D17, log 19). -/
def Obligations.InterruptIsAStub : Prop :=
  (∀ s : State, (interrupt s).2 = s ∧ (s.intHook = .nothingPending → (interrupt s).1 = .nothingPending)) ∧
  (interrupt State.reset).1 = .nothingPending

/-- R251: `micros` is the integer nearest to `1000000 * c / f` on exact rationals, a half going up (D15, log 18). -/
def Obligations.MicrosRoundsToTheNearest : Prop :=
  ∀ f c : Nat, 1 ≤ f → ∃ m : Nat, micros f c = some m ∧
    (m : ℚ) - 1 / 2 ≤ 1000000 * c / f ∧ (1000000 * c / f : ℚ) < m + 1 / 2

/-- With VRAM_DEFAULT the clock is never read (R277, R278): every step keeps the relation of two machines that differ only in
the clock frequency and the notifications recorded (log 20), whatever the number of steps taken before, or both raise the
same fault. -/
def Obligations.ClockIsNeverReadWithVram : Prop :=
  ∀ s s' : State, s.bus.per.isVram = true → sameButClock s s' →
    (∃ t t', step s = .next t ∧ step s' = .next t' ∧ t.bus.per.isVram = true ∧ sameButClock t t') ∨
    ∃ f, step s = .fault f ∧ step s' = .fault f

/-- The suggested report of a step's answer (R235, D18, log 32): the cause numbers 0 to 4 and the 16-bit information word, and
the two together identify the fault. The register numbers (places in R9's list) and the packing, number in the low byte and
width in bits in the high one, are the model's choice (log 33). -/
def Obligations.FaultReportIdentifiesTheFault : Prop :=
  (∀ s : State, causeOf (.next s) = some 0) ∧
  (∀ a : Word,
    causeOf (.fault (.outOfBounds a)) = some 1 ∧ (Fault.outOfBounds a).infoWord = a ∧
    causeOf (.fault (.illegalInstruction a)) = some 2 ∧ (Fault.illegalInstruction a).infoWord = a ∧
    causeOf (.fault (.unimplemented a)) = some 4 ∧ (Fault.unimplemented a).infoWord = a) ∧
  (∀ (r : RegName) (w : Width), causeOf (.fault (.badRegisterAccess r w)) = some 3 ∧
    registerOrder[(getLow (Fault.badRegisterAccess r w).infoWord).toNat]? = some r ∧
    (getHigh (Fault.badRegisterAccess r w).infoWord).toNat = match w with
      | .byte => 8
      | .word => 16) ∧
  ∀ f g : Fault, f.causeCode = g.causeCode → f.infoWord = g.infoWord → f = g

/-- R89: no specified operation reads, modifies and writes a byte of memory. A step of the default table that offers a write
makes no read but of its own instruction bytes, which come first, so an address it both reads and writes is one of those: the
store onto the instruction itself that R180 describes (R89 is read of an operation's data accesses: DEDUCED, log 34). Over any
table only LD writes memory, and a store reads nothing but its own offset byte. -/
def Obligations.NoOperationReadsAndWritesOneAddress : Prop :=
  (∀ (s : State) (a : Word) (v : Byte), .write a v ∈ (stepTrace s).events →
    let accesses := (stepTrace s).events.filter fun e => !isCatchup e
    (accesses = [.read s.pc, .write a v] ∨ accesses = [.read s.pc, .read (s.pc + 1), .write a v]) ∧
    (.read a ∈ (stepTrace s).events → a = s.pc ∨ a = s.pc + 1)) ∧
  (∀ (d : Descriptor) (s : State) (a : Word) (v : Byte), .write a v ∈ (runDescriptor d s).events → d.kind = .ld) ∧
  ∀ (s : State) (dst : Operand) (v : Byte) (ia a : Word), .read a ∈ (storeByte s dst v ia).events →
    dst = .offsetImm ∧ a = ia + 1
end

