-- ==== Sys2Proof/Laws/Bits.lean ====
section
/-! SUPPORT. Laws of the Word accessors and bit operations (spec/10_state.md R20, R22). -/
namespace Sys2Proof.Machine

@[simp] theorem getHigh_wordOf (h l : Byte) : getHigh (wordOf h l) = h := by
  apply BitVec.eq_of_getLsbD_eq; intro k hk
  have h8 : ¬(8 + k < 8) := by omega
  simp only [getHigh, wordOf, BitVec.getLsbD_extractLsb', BitVec.getLsbD_append, hk, h8]
  simp

@[simp] theorem getLow_wordOf (h l : Byte) : getLow (wordOf h l) = l := by
  apply BitVec.eq_of_getLsbD_eq; intro k hk
  simp only [getLow, wordOf, BitVec.getLsbD_extractLsb', BitVec.getLsbD_append, Nat.zero_add, hk]
  simp

@[simp] theorem wordOf_halves (w : Word) : wordOf (getHigh w) (getLow w) = w := by
  unfold wordOf getHigh getLow; ext i hi
  simp only [BitVec.getElem_append, BitVec.getElem_extractLsb', Nat.zero_add]
  split
  · simp [BitVec.getLsbD_eq_getElem, hi]
  · rename_i h; simp [BitVec.getLsbD_eq_getElem, show 8 + (i - 8) = i by omega, hi]

@[simp] theorem getHigh_setHigh (w : Word) (h : Byte) : getHigh (setHigh w h) = h := getHigh_wordOf _ _

@[simp] theorem getLow_setHigh (w : Word) (h : Byte) : getLow (setHigh w h) = getLow w := getLow_wordOf _ _

@[simp] theorem getLow_setLow (w : Word) (l : Byte) : getLow (setLow w l) = l := getLow_wordOf _ _

@[simp] theorem getHigh_setLow (w : Word) (l : Byte) : getHigh (setLow w l) = getHigh w := getHigh_wordOf _ _

/-- Bit `k` of the low half is bit `k` of the Word. -/
theorem getLsbD_getLow (w : Word) (k : Nat) : (getLow w).getLsbD k = (decide (k < 8) && w.getLsbD k) := by
  simp [getLow]

/-- Bit `k` of the high half is bit `8 + k` of the Word. -/
theorem getLsbD_getHigh (w : Word) (k : Nat) : (getHigh w).getLsbD k = (decide (k < 8) && w.getLsbD (8 + k)) := by
  simp [getHigh]

/-- What `set_bit` does to every bit. -/
theorem getLsbD_setBit (w : Word) (i : Fin 16) (k : Nat) :
    (setBit w i).getLsbD k = (w.getLsbD k || decide (k = i.val)) := by
  have hi := i.isLt
  by_cases hk : k < 16
  · by_cases h : k = i.val
    · subst h; simp [setBit]
    · by_cases hlt : k < i.val
      · simp [setBit, h, hlt]
      · simp [setBit, h, show ¬(k - i.val = 0) by omega]
  · have : k ≠ i.val := by omega
    simp [BitVec.getLsbD_of_ge, this, show 16 ≤ k by omega]

/-- What `unset_bit` does to every bit. -/
theorem getLsbD_unsetBit (w : Word) (i : Fin 16) (k : Nat) :
    (unsetBit w i).getLsbD k = (w.getLsbD k && !decide (k = i.val)) := by
  have hi := i.isLt
  by_cases hk : k < 16
  · by_cases h : k = i.val
    · subst h; simp [unsetBit]
    · by_cases hlt : k < i.val
      · simp [unsetBit, h, hlt, hk]
      · simp [unsetBit, h, hk, show ¬(k - i.val = 0) by omega]
  · simp [BitVec.getLsbD_of_ge, show 16 ≤ k by omega]

/-- Flag positions lie in the low byte: setting one leaves the high byte. -/
theorem getHigh_setBit (w : Word) (i : Fin 16) (h : i.val < 8) : getHigh (setBit w i) = getHigh w := by
  apply BitVec.eq_of_getLsbD_eq; intro k hk
  simp only [getLsbD_getHigh, getLsbD_setBit]
  simp [show ¬(8 + k = i.val) by omega]

/-- Flag positions lie in the low byte: clearing one leaves the high byte. -/
theorem getHigh_unsetBit (w : Word) (i : Fin 16) (h : i.val < 8) : getHigh (unsetBit w i) = getHigh w := by
  apply BitVec.eq_of_getLsbD_eq; intro k hk
  simp only [getLsbD_getHigh, getLsbD_unsetBit]
  simp [show ¬(8 + k = i.val) by omega]

end Sys2Proof.Machine
end

