-- ==== Sys2Proof/Laws/Memory.lean ====
section
/-! SUPPORT. Laws of a byte array's contents: read after write, the canonical form is kept, and contents in canonical
form that read alike are equal data (log 3). -/
namespace Sys2Proof.Machine

/-- Below every listed address, every byte is unlisted. -/
theorem Memory.read_below {lo hi : Nat} {m : Memory} (h : Memory.wfIn lo hi m = true) {a : Nat} (ha : a < lo) :
    Memory.read m a = Config.unlistedByte := by
  induction m generalizing lo with
  | nil => rfl
  | cons x m ih =>
    obtain ⟨k, b⟩ := x
    simp only [Memory.wfIn, Bool.and_eq_true, decide_eq_true_eq] at h
    have hk : k ≠ a := by omega
    simp only [Memory.read, hk, if_false]
    exact ih h.2 (by omega)

/-- What the canonical form within a range says: addresses rise strictly, and every pair lies in the range and lists a byte
that an unlisted address does not read as. -/
theorem Memory.wfIn_iff {lo hi : Nat} {m : Memory} : Memory.wfIn lo hi m = true ↔
    m.Pairwise (fun x y => x.1 < y.1) ∧ ∀ x ∈ m, lo ≤ x.1 ∧ x.1 < hi ∧ x.2 ≠ Config.unlistedByte := by
  induction m generalizing lo with
  | nil => simp [Memory.wfIn]
  | cons x m ih =>
    obtain ⟨k, b⟩ := x
    simp only [Memory.wfIn, Bool.and_eq_true, decide_eq_true_eq, bne_iff_ne, ih, List.pairwise_cons, List.mem_cons,
      forall_eq_or_imp]
    constructor
    · rintro ⟨⟨⟨h1, h2⟩, h3⟩, hp, hm⟩
      refine ⟨⟨fun y hy => ?_, hp⟩, ⟨h1, h2, h3⟩, fun y hy => ?_⟩ <;> obtain ⟨h, h'⟩ := hm y hy
      · exact h
      · exact ⟨by omega, h'⟩
    · rintro ⟨⟨hk, hp⟩, ⟨h1, h2, h3⟩, hm⟩
      exact ⟨⟨⟨h1, h2⟩, h3⟩, hp, fun y hy => ⟨hk y hy, (hm y hy).2⟩⟩

/-- The range of a canonical form may grow downwards. -/
theorem Memory.wfIn_lower {lo lo' hi : Nat} {m : Memory} (h : Memory.wfIn lo hi m = true) (hl : lo' ≤ lo) :
    Memory.wfIn lo' hi m = true := by
  cases m with
  | nil => rfl
  | cons x m =>
    obtain ⟨k, b⟩ := x
    simp only [Memory.wfIn, Bool.and_eq_true, decide_eq_true_eq] at h ⊢
    exact ⟨⟨⟨by omega, h.1.1.2⟩, h.1.2⟩, h.2⟩

/-- The range of a canonical form may grow upwards. -/
theorem Memory.wfIn_upper {lo hi hi' : Nat} {m : Memory} (h : Memory.wfIn lo hi m = true) (hl : hi ≤ hi') :
    Memory.wfIn lo hi' m = true := by
  induction m generalizing lo with
  | nil => rfl
  | cons x m ih =>
    obtain ⟨k, b⟩ := x
    simp only [Memory.wfIn, Bool.and_eq_true, decide_eq_true_eq] at h ⊢
    exact ⟨⟨⟨h.1.1.1, by omega⟩, h.1.2⟩, ih h.2⟩

/-- Reading one address after writing another. -/
theorem Memory.read_write_other (m : Memory) {a b : Nat} (v : Byte) (h : b ≠ a) :
    Memory.read (Memory.write m a v) b = Memory.read m b := by
  induction m with
  | nil => simp only [Memory.write, Memory.put]; split <;> simp [Memory.read, h.symm]
  | cons x m ih =>
    obtain ⟨k, c⟩ := x
    simp only [Memory.write, Memory.put]
    split
    · split
      · rfl
      · simp [Memory.read, h.symm]
    · split
      · next hk =>
        subst hk
        split <;> simp [Memory.read, h.symm]
      · simp only [Memory.read, ih]

/-- Reading an address after writing it, in canonical form. -/
theorem Memory.read_write_same {lo hi : Nat} {m : Memory} (h : Memory.wfIn lo hi m = true) (a : Nat) (v : Byte) :
    Memory.read (Memory.write m a v) a = v := by
  induction m generalizing lo with
  | nil => simp only [Memory.write, Memory.put]; split <;> simp_all [Memory.read]
  | cons x m ih =>
    obtain ⟨k, c⟩ := x
    have hw := h
    simp only [Memory.wfIn, Bool.and_eq_true, decide_eq_true_eq] at h
    simp only [Memory.write, Memory.put]
    split
    · next hak =>
      split
      · next hv =>
        have hk : k ≠ a := by omega
        simp only [Memory.read, hk, if_false, hv]
        exact Memory.read_below h.2 (by omega)
      · simp [Memory.read]
    · split
      · next hak =>
        subst hak
        split
        · next hv => rw [hv]; exact Memory.read_below h.2 (by omega)
        · simp [Memory.read]
      · next hk =>
        have hk' : k ≠ a := fun e => hk e.symm
        simp only [Memory.read, hk', if_false]
        exact ih h.2

/-- A write keeps the canonical form. -/
theorem Memory.wfIn_write {lo hi : Nat} {m : Memory} (h : Memory.wfIn lo hi m = true) {a : Nat} (v : Byte)
    (hlo : lo ≤ a) (hhi : a < hi) : Memory.wfIn lo hi (Memory.write m a v) = true := by
  induction m generalizing lo with
  | nil =>
    simp only [Memory.write, Memory.put]
    split
    · rfl
    · next hv => simp [Memory.wfIn, hlo, hhi, hv]
  | cons x m ih =>
    obtain ⟨k, c⟩ := x
    have hw := h
    simp only [Memory.wfIn, Bool.and_eq_true, decide_eq_true_eq] at h
    obtain ⟨⟨⟨h1, h2⟩, h3⟩, h4⟩ := h
    simp only [Memory.write, Memory.put]
    split
    · next hak =>
      split
      · exact hw
      · next hv =>
        simp only [Memory.wfIn, Bool.and_eq_true, decide_eq_true_eq, bne_iff_ne]
        exact ⟨⟨⟨hlo, hhi⟩, hv⟩, ⟨⟨by omega, h2⟩, by simpa using h3⟩, h4⟩
    · split
      · next hak =>
        subst hak
        split
        · exact Memory.wfIn_lower h4 (by omega)
        · next hv =>
          simp only [Memory.wfIn, Bool.and_eq_true, decide_eq_true_eq, bne_iff_ne]
          exact ⟨⟨⟨hlo, hhi⟩, hv⟩, h4⟩
      · next hne hk =>
        simp only [Memory.wfIn, Bool.and_eq_true, decide_eq_true_eq]
        exact ⟨⟨⟨h1, h2⟩, h3⟩, ih h4 (by omega)⟩

/-- The canonical form within a device's range is the canonical form within the address space. -/
theorem Memory.wf_of_wfIn {lo hi : Nat} {m : Memory} (h : Memory.wfIn lo hi m = true) (hh : hi ≤ 65536) :
    Memory.wf m = true :=
  Memory.wfIn_lower (Memory.wfIn_upper h hh) (Nat.zero_le _)

/-- Contents in canonical form that read alike are equal data. -/
theorem Memory.ext_of_read {lo hi lo' hi' : Nat} {m m' : Memory} (h : Memory.wfIn lo hi m = true)
    (h' : Memory.wfIn lo' hi' m' = true) (hr : ∀ a, Memory.read m a = Memory.read m' a) : m = m' := by
  induction m generalizing lo lo' m' with
  | nil =>
    cases m' with
    | nil => rfl
    | cons x m' =>
      obtain ⟨k, b⟩ := x
      have := hr k
      simp only [Memory.wfIn, Bool.and_eq_true, bne_iff_ne] at h'
      simp only [Memory.read, if_true] at this
      exact absurd this.symm h'.1.2
  | cons x m ih =>
    obtain ⟨k, b⟩ := x
    simp only [Memory.wfIn, Bool.and_eq_true, decide_eq_true_eq, bne_iff_ne] at h
    cases m' with
    | nil =>
      have := hr k
      simp only [Memory.read, if_true] at this
      exact absurd this h.1.2
    | cons y m' =>
      obtain ⟨k', b'⟩ := y
      simp only [Memory.wfIn, Bool.and_eq_true, decide_eq_true_eq, bne_iff_ne] at h'
      have hk : k = k' := by
        by_contra hne
        rcases Nat.lt_or_gt_of_ne hne with hlt | hlt
        · have := hr k
          simp only [Memory.read, if_true, show k' ≠ k by omega, if_false] at this
          rw [Memory.read_below h'.2 (by omega)] at this
          exact h.1.2 this
        · have := hr k'
          simp only [Memory.read, if_true, hne, if_false] at this
          rw [Memory.read_below h.2 (by omega)] at this
          exact h'.1.2 this.symm
      subst hk
      have hb : b = b' := by simpa [Memory.read] using hr k
      subst hb
      congr 1
      refine ih h.2 h'.2 fun a => ?_
      have := hr a
      by_cases hak : k = a
      · subst hak
        rw [Memory.read_below h.2 (by omega), Memory.read_below h'.2 (by omega)]
      · simpa [Memory.read, hak] using this

end Sys2Proof.Machine
end

