-- ==== Sys2Proof/Laws/Bus.lean ====
section
/-! SUPPORT. Laws of the devices and the Bus: what a write changes, that every operation keeps the devices well formed,
and what the catch-up can do (spec/20_memory.md R61 to R76). -/
namespace Sys2Proof.Machine

/-- Distinct addresses are distinct keys. -/
theorem Word.toNat_ne {a b : Word} (h : b ≠ a) : b.toNat ≠ a.toNat := fun e => h (BitVec.eq_of_toNat_eq e)

@[simp] theorem Bus.catchup_ram (b : Bus) (t : CycleTime) : (b.catchup t).ram = b.ram := rfl

@[simp] theorem Bus.catchup_per (b : Bus) (t : CycleTime) : (b.catchup t).per = b.per.catchup t := rfl

@[simp] theorem Peripheral.catchup_start (p : Peripheral) (t : CycleTime) : (p.catchup t).start = p.start := by
  unfold Peripheral.catchup; split <;> rfl

@[simp] theorem Peripheral.catchup_size (p : Peripheral) (t : CycleTime) : (p.catchup t).size = p.size := by
  unfold Peripheral.catchup; split <;> rfl

/-- VRAM_DEFAULT's catch-up changes nothing (R69). -/
theorem Peripheral.catchup_vram {p : Peripheral} {m : Memory} (h : p.unit = .vram m) (t : CycleTime) :
    p.catchup t = p := by
  unfold Peripheral.catchup; rw [h]

/-- What a RAM write that succeeds has done (R66). -/
theorem Ram.write_ok {r r' : Ram} {a : Word} {v : Byte} (h : r.write a v = .ok r') :
    r.holds a = true ∧ r' = { r with cells := r.cells.write a.toNat v } := by
  unfold Ram.write at h
  split at h
  · next hh => exact ⟨hh, by cases h; rfl⟩
  · cases h

/-- A RAM write succeeds exactly inside the range (R66). -/
theorem Ram.write_of_holds {r : Ram} {a : Word} (h : r.holds a = true) (v : Byte) :
    r.write a v = .ok { r with cells := r.cells.write a.toNat v } := by
  unfold Ram.write; rw [if_pos h]

/-- Outside the range a RAM write faults with the address offered (R62, R66). -/
theorem Ram.write_of_not_holds {r : Ram} {a : Word} (h : r.holds a = false) (v : Byte) :
    r.write a v = .error (.outOfBounds a) := by
  unfold Ram.write; simp [h]

theorem Ram.read_of_holds {r : Ram} {a : Word} (h : r.holds a = true) : r.read a = .ok (r.cells.read a.toNat) := by
  unfold Ram.read; rw [if_pos h]

theorem Ram.read_of_not_holds {r : Ram} {a : Word} (h : r.holds a = false) :
    r.read a = .error (.outOfBounds a) := by
  unfold Ram.read; simp [h]

/-- What a peripheral write that succeeds has done (R69). -/
theorem Peripheral.write_ok {p p' : Peripheral} {a : Word} {v : Byte} (h : p.write a v = .ok p') :
    p.holds a = true ∧
      ((∃ m, p.unit = .vram m ∧ p' = { p with unit := .vram (m.write a.toNat v) }) ∨
        ∃ d d', p.unit = .device d ∧ Config.deviceWrite d a v = some d' ∧ p' = { p with unit := .device d' }) := by
  unfold Peripheral.write at h
  split at h
  · next hh =>
    refine ⟨hh, ?_⟩
    split at h
    · next m hu => cases h; exact .inl ⟨m, hu, rfl⟩
    · next d hu =>
      split at h
      · next d' hd => cases h; exact .inr ⟨d, d', hu, hd, rfl⟩
      · cases h
  · cases h

/-- A peripheral's only fault is OutOfBounds of the address offered (R62, R69). -/
theorem Peripheral.write_error {p : Peripheral} {a : Word} {v : Byte} {f : Fault} (h : p.write a v = .error f) :
    f = .outOfBounds a := by
  unfold Peripheral.write at h
  split at h
  · split at h
    · cases h
    · split at h
      · cases h
      · cases h; rfl
  · cases h; rfl

theorem Peripheral.read_error {p : Peripheral} {a : Word} {f : Fault} (h : p.read a = .error f) :
    f = .outOfBounds a := by
  unfold Peripheral.read at h
  split at h
  · split at h
    · cases h
    · split at h
      · cases h
      · cases h; rfl
  · cases h; rfl

/-- The Bus's only fault is OutOfBounds of the address offered (R74). -/
theorem Bus.read_error {b : Bus} {a : Word} {f : Fault} (h : b.read a = .error f) : f = .outOfBounds a := by
  unfold Bus.read at h
  split at h
  · cases h
  · exact Peripheral.read_error h

/-- What a Bus write can do (R73): the RAM takes it, or the peripheral does. -/
theorem Bus.write_cases {b b' : Bus} {a : Word} {v : Byte} (h : b.write a v = .ok b') :
    (b.ram.holds a = true ∧ b' = { b with ram := { b.ram with cells := b.ram.cells.write a.toNat v } }) ∨
      (b.ram.holds a = false ∧ ∃ p, b.per.write a v = .ok p ∧ b' = { b with per := p }) := by
  unfold Bus.write at h
  cases hr : b.ram.holds a with
  | true => rw [Ram.write_of_holds hr] at h; cases h; exact .inl ⟨rfl, rfl⟩
  | false =>
    rw [Ram.write_of_not_holds hr] at h
    simp only at h
    split at h
    · next p hp => cases h; exact .inr ⟨rfl, p, hp, rfl⟩
    · cases h

theorem Bus.write_error {b : Bus} {a : Word} {v : Byte} {f : Fault} (h : b.write a v = .error f) :
    f = .outOfBounds a := by
  unfold Bus.write at h
  split at h
  · cases h
  · split at h
    · cases h
    · next hp => cases h; exact Peripheral.write_error hp

/-- The Bus reads RAM where RAM answers (R72). -/
theorem Bus.read_of_ram {b : Bus} {a : Word} (h : b.ram.holds a = true) :
    b.read a = .ok (b.ram.cells.read a.toNat) := by
  unfold Bus.read; rw [Ram.read_of_holds h]

/-- Elsewhere the Bus reads the peripheral (R72). -/
theorem Bus.read_of_not_ram {b : Bus} {a : Word} (h : b.ram.holds a = false) : b.read a = b.per.read a := by
  unfold Bus.read; rw [Ram.read_of_not_holds h]

theorem Peripheral.read_vram {p : Peripheral} {m : Memory} (hu : p.unit = .vram m) (a : Word) :
    p.read a = if p.holds a then .ok (m.read a.toNat) else .error (.outOfBounds a) := by
  unfold Peripheral.read; simp only [hu]

/-- What a read leaves of the peripheral: it as it was, or the state a read that succeeded gives it (R61, R84). -/
theorem Peripheral.afterRead_cases (p : Peripheral) (a : Word) :
    p.afterRead a = p ∨ ∃ d, p.unit = .device d ∧ p.afterRead a = { p with unit := .device (Config.deviceAfterRead d a) } := by
  unfold Peripheral.afterRead
  split
  · split
    · exact .inl rfl
    · next d hd =>
      split
      · exact .inr ⟨d, hd, rfl⟩
      · exact .inl rfl
  · exact .inl rfl

@[simp] theorem Peripheral.afterRead_start (p : Peripheral) (a : Word) : (p.afterRead a).start = p.start := by
  rcases p.afterRead_cases a with h | ⟨d, -, h⟩ <;> rw [h]

@[simp] theorem Peripheral.afterRead_size (p : Peripheral) (a : Word) : (p.afterRead a).size = p.size := by
  rcases p.afterRead_cases a with h | ⟨d, -, h⟩ <;> rw [h]

@[simp] theorem Peripheral.afterRead_isVram (p : Peripheral) (a : Word) : (p.afterRead a).isVram = p.isVram := by
  rcases p.afterRead_cases a with h | ⟨d, hd, h⟩ <;> rw [h]
  simp [Peripheral.isVram, hd]

/-- A read keeps the peripheral well formed. -/
theorem Peripheral.wf_afterRead {p : Peripheral} (h : p.wf = true) (a : Word) : (p.afterRead a).wf = true := by
  rcases p.afterRead_cases a with e | ⟨d, -, e⟩ <;> rw [e]
  · exact h
  · simp only [Peripheral.wf, Bool.and_eq_true] at h ⊢
    exact ⟨h.1, trivial⟩

@[simp] theorem Bus.afterRead_ram (b : Bus) (a : Word) : (b.afterRead a).ram = b.ram := by
  unfold Bus.afterRead; split <;> rfl

/-- A Bus read leaves the peripheral, or makes it see the read. -/
theorem Bus.afterRead_per (b : Bus) (a : Word) :
    (b.afterRead a).per = b.per ∨ (b.afterRead a).per = b.per.afterRead a := by
  unfold Bus.afterRead
  split
  · exact .inl rfl
  · exact .inr rfl

@[simp] theorem Bus.afterRead_per_start (b : Bus) (a : Word) : (b.afterRead a).per.start = b.per.start := by
  rcases b.afterRead_per a with h | h <;> simp [h]

@[simp] theorem Bus.afterRead_per_size (b : Bus) (a : Word) : (b.afterRead a).per.size = b.per.size := by
  rcases b.afterRead_per a with h | h <;> simp [h]

@[simp] theorem Bus.afterRead_isVram (b : Bus) (a : Word) : (b.afterRead a).per.isVram = b.per.isVram := by
  rcases b.afterRead_per a with h | h <;> simp [h]

@[simp] theorem Bus.afterRead_steady (b : Bus) (a x : Word) : (b.afterRead a).steady x = b.steady x := by
  simp [Bus.steady]

@[simp] theorem Bus.afterRead_plain (b : Bus) (a x : Word) : (b.afterRead a).plain x = b.plain x := by
  simp [Bus.plain, Peripheral.holds]

/-- With VRAM_DEFAULT no read has a side effect (R69, R84). -/
theorem Bus.afterRead_vram {b : Bus} (h : b.per.isVram = true) (a : Word) : b.afterRead a = b := by
  unfold Bus.afterRead
  split
  · rfl
  · rcases b.per.afterRead_cases a with e | ⟨d, hd, -⟩
    · rw [e]
    · simp [Peripheral.isVram, hd] at h

/-- A read of RAM has no side effect (R84). -/
theorem Bus.afterRead_of_ram {b : Bus} {a : Word} (h : b.ram.holds a = true) : b.afterRead a = b := by
  unfold Bus.afterRead; rw [Ram.read_of_holds h]

/-- A read where only a write can change the answer has no side effect. -/
theorem Bus.afterRead_of_steady {b : Bus} {a : Word} (h : b.steady a = true) : b.afterRead a = b := by
  simp only [Bus.steady, Bool.or_eq_true] at h
  exact h.elim Bus.afterRead_of_ram fun hv => Bus.afterRead_vram hv a

/-- Elsewhere the peripheral sees the read. -/
theorem Bus.afterRead_of_not_ram {b : Bus} {a : Word} (h : b.ram.holds a = false) :
    b.afterRead a = { b with per := b.per.afterRead a } := by
  unfold Bus.afterRead; rw [Ram.read_of_not_holds h]

/-- A read that fails has no side effect (R61). -/
theorem Bus.afterRead_of_error {b : Bus} {a : Word} {f : Fault} (h : b.read a = .error f) : b.afterRead a = b := by
  cases hr : b.ram.holds a with
  | true => exact Bus.afterRead_of_ram hr
  | false =>
    rw [Bus.afterRead_of_not_ram hr]
    rw [Bus.read_of_not_ram hr] at h
    have e : b.per.afterRead a = b.per := by
      unfold Peripheral.read at h
      unfold Peripheral.afterRead
      split
      · next hh =>
        rw [if_pos hh] at h
        split
        · rfl
        · next d hd =>
          simp only [hd] at h
          split
          · next v hv => simp [hv] at h
          · rfl
      · rfl
    rw [e]

/-- What a read leaves at an address whose answer only a write can change. -/
theorem Bus.read_afterRead {b : Bus} {x : Word} (h : b.steady x = true) (a : Word) :
    (b.afterRead a).read x = b.read x := by
  simp only [Bus.steady, Bool.or_eq_true] at h
  rcases h with h | h
  · rw [Bus.read_of_ram h, Bus.read_of_ram (by simpa using h)]
    simp
  · rw [Bus.afterRead_vram h]

/-- A read keeps both devices well formed. -/
theorem Bus.wf_afterRead {b : Bus} (hr : b.ram.wf = true) (hp : b.per.wf = true) (a : Word) :
    (b.afterRead a).ram.wf = true ∧ (b.afterRead a).per.wf = true := by
  refine ⟨by simpa using hr, ?_⟩
  rcases b.afterRead_per a with h | h <;> rw [h]
  · exact hp
  · exact Peripheral.wf_afterRead hp a

/-- A Bus write keeps the construction parameters. -/
theorem Bus.write_params {b b' : Bus} {a : Word} {v : Byte} (h : b.write a v = .ok b') :
    b'.ram.start = b.ram.start ∧ b'.ram.size = b.ram.size ∧ b'.per.start = b.per.start ∧
      b'.per.size = b.per.size := by
  rcases Bus.write_cases h with ⟨-, rfl⟩ | ⟨-, p, hp, rfl⟩
  · exact ⟨rfl, rfl, rfl, rfl⟩
  · rcases Peripheral.write_ok hp with ⟨-, ⟨m, -, rfl⟩ | ⟨d, d', -, -, rfl⟩⟩ <;> exact ⟨rfl, rfl, rfl, rfl⟩

/-- An address in range is a key in range. -/
theorem inRange_iff {start : Word} {size : Nat} {a : Word} :
    inRange start size a = true ↔ start.toNat ≤ a.toNat ∧ a.toNat < start.toNat + size := by
  simp [inRange]

/-- A RAM write keeps the RAM well formed. -/
theorem Ram.wf_write {r : Ram} (h : r.wf = true) {a : Word} (ha : r.holds a = true) (v : Byte) :
    Ram.wf { r with cells := r.cells.write a.toNat v } = true := by
  simp only [Ram.wf, Bool.and_eq_true] at h ⊢
  obtain ⟨h1, h2⟩ := inRange_iff.mp ha
  exact ⟨h.1, Memory.wfIn_write h.2 v h1 h2⟩

/-- A peripheral write keeps the peripheral well formed. -/
theorem Peripheral.wf_write {p p' : Peripheral} (h : p.wf = true) {a : Word} {v : Byte} (hw : p.write a v = .ok p') :
    p'.wf = true := by
  simp only [Peripheral.wf, Bool.and_eq_true] at h ⊢
  rcases Peripheral.write_ok hw with ⟨ha, ⟨m, hu, rfl⟩ | ⟨d, d', -, -, rfl⟩⟩
  · obtain ⟨h1, h2⟩ := inRange_iff.mp ha
    simp only [hu] at h
    exact ⟨h.1, Memory.wfIn_write h.2 v h1 h2⟩
  · exact ⟨h.1, rfl⟩

/-- A catch-up keeps the peripheral well formed. -/
theorem Peripheral.wf_catchup {p : Peripheral} (h : p.wf = true) (t : CycleTime) : (p.catchup t).wf = true := by
  unfold Peripheral.catchup
  split
  · exact h
  · simp only [Peripheral.wf, Bool.and_eq_true] at h ⊢
    exact ⟨h.1, trivial⟩

/-- A Bus write keeps both devices well formed. -/
theorem Bus.wf_write {b b' : Bus} {a : Word} {v : Byte} (hr : b.ram.wf = true) (hp : b.per.wf = true)
    (h : b.write a v = .ok b') : b'.ram.wf = true ∧ b'.per.wf = true := by
  rcases Bus.write_cases h with ⟨ha, rfl⟩ | ⟨-, p, hw, rfl⟩
  · exact ⟨Ram.wf_write hr ha v, hp⟩
  · exact ⟨hr, Peripheral.wf_write hp hw⟩

end Sys2Proof.Machine
end

