-- ==== Sys2Proof/Laws/State.lean ====
section
/-! SUPPORT. The small lemmas of the state's updates: one per field per update, so that no later proof unfolds one; and
reading a register after writing one (spec/10_state.md R24 to R27). -/
namespace Sys2Proof.Machine

@[simp] theorem State.set8_sp (s : State) (r : Reg8) (v : Byte) : (s.set8 r v).sp = s.sp := by cases r <;> rfl
@[simp] theorem State.set8_pc (s : State) (r : Reg8) (v : Byte) : (s.set8 r v).pc = s.pc := by cases r <;> rfl
@[simp] theorem State.set8_bus (s : State) (r : Reg8) (v : Byte) : (s.set8 r v).bus = s.bus := by cases r <;> rfl
@[simp] theorem State.set8_freqHz (s : State) (r : Reg8) (v : Byte) : (s.set8 r v).freqHz = s.freqHz := by cases r <;> rfl
@[simp] theorem State.set8_flagBits (s : State) (r : Reg8) (v : Byte) : (s.set8 r v).flagBits = s.flagBits := by cases r <;> rfl
@[simp] theorem State.set8_intHook (s : State) (r : Reg8) (v : Byte) : (s.set8 r v).intHook = s.intHook := by cases r <;> rfl
@[simp] theorem State.set8_notices (s : State) (r : Reg8) (v : Byte) : (s.set8 r v).notices = s.notices := by cases r <;> rfl
@[simp] theorem State.set8_returned (s : State) (r : Reg8) (v : Byte) : (s.set8 r v).returned = s.returned := by cases r <;> rfl

@[simp] theorem State.set8_a_af (s : State) (v : Byte) : (s.set8 .a v).af = setHigh s.af v := rfl
@[simp] theorem State.set8_a_bc (s : State) (v : Byte) : (s.set8 .a v).bc = s.bc := rfl
@[simp] theorem State.set8_a_de (s : State) (v : Byte) : (s.set8 .a v).de = s.de := rfl
@[simp] theorem State.set8_a_hl (s : State) (v : Byte) : (s.set8 .a v).hl = s.hl := rfl
@[simp] theorem State.set8_f_af (s : State) (v : Byte) : (s.set8 .f v).af = setLow s.af v := rfl
@[simp] theorem State.set8_f_bc (s : State) (v : Byte) : (s.set8 .f v).bc = s.bc := rfl
@[simp] theorem State.set8_f_de (s : State) (v : Byte) : (s.set8 .f v).de = s.de := rfl
@[simp] theorem State.set8_f_hl (s : State) (v : Byte) : (s.set8 .f v).hl = s.hl := rfl
@[simp] theorem State.set8_b_af (s : State) (v : Byte) : (s.set8 .b v).af = s.af := rfl
@[simp] theorem State.set8_b_bc (s : State) (v : Byte) : (s.set8 .b v).bc = setHigh s.bc v := rfl
@[simp] theorem State.set8_b_de (s : State) (v : Byte) : (s.set8 .b v).de = s.de := rfl
@[simp] theorem State.set8_b_hl (s : State) (v : Byte) : (s.set8 .b v).hl = s.hl := rfl
@[simp] theorem State.set8_c_af (s : State) (v : Byte) : (s.set8 .c v).af = s.af := rfl
@[simp] theorem State.set8_c_bc (s : State) (v : Byte) : (s.set8 .c v).bc = setLow s.bc v := rfl
@[simp] theorem State.set8_c_de (s : State) (v : Byte) : (s.set8 .c v).de = s.de := rfl
@[simp] theorem State.set8_c_hl (s : State) (v : Byte) : (s.set8 .c v).hl = s.hl := rfl
@[simp] theorem State.set8_d_af (s : State) (v : Byte) : (s.set8 .d v).af = s.af := rfl
@[simp] theorem State.set8_d_bc (s : State) (v : Byte) : (s.set8 .d v).bc = s.bc := rfl
@[simp] theorem State.set8_d_de (s : State) (v : Byte) : (s.set8 .d v).de = setHigh s.de v := rfl
@[simp] theorem State.set8_d_hl (s : State) (v : Byte) : (s.set8 .d v).hl = s.hl := rfl
@[simp] theorem State.set8_e_af (s : State) (v : Byte) : (s.set8 .e v).af = s.af := rfl
@[simp] theorem State.set8_e_bc (s : State) (v : Byte) : (s.set8 .e v).bc = s.bc := rfl
@[simp] theorem State.set8_e_de (s : State) (v : Byte) : (s.set8 .e v).de = setLow s.de v := rfl
@[simp] theorem State.set8_e_hl (s : State) (v : Byte) : (s.set8 .e v).hl = s.hl := rfl
@[simp] theorem State.set8_h_af (s : State) (v : Byte) : (s.set8 .h v).af = s.af := rfl
@[simp] theorem State.set8_h_bc (s : State) (v : Byte) : (s.set8 .h v).bc = s.bc := rfl
@[simp] theorem State.set8_h_de (s : State) (v : Byte) : (s.set8 .h v).de = s.de := rfl
@[simp] theorem State.set8_h_hl (s : State) (v : Byte) : (s.set8 .h v).hl = setHigh s.hl v := rfl
@[simp] theorem State.set8_l_af (s : State) (v : Byte) : (s.set8 .l v).af = s.af := rfl
@[simp] theorem State.set8_l_bc (s : State) (v : Byte) : (s.set8 .l v).bc = s.bc := rfl
@[simp] theorem State.set8_l_de (s : State) (v : Byte) : (s.set8 .l v).de = s.de := rfl
@[simp] theorem State.set8_l_hl (s : State) (v : Byte) : (s.set8 .l v).hl = setLow s.hl v := rfl

@[simp] theorem State.set16_bus (s : State) (r : Reg16) (w : Word) : (s.set16 r w).bus = s.bus := by cases r <;> rfl
@[simp] theorem State.set16_freqHz (s : State) (r : Reg16) (w : Word) : (s.set16 r w).freqHz = s.freqHz := by cases r <;> rfl
@[simp] theorem State.set16_flagBits (s : State) (r : Reg16) (w : Word) : (s.set16 r w).flagBits = s.flagBits := by cases r <;> rfl
@[simp] theorem State.set16_intHook (s : State) (r : Reg16) (w : Word) : (s.set16 r w).intHook = s.intHook := by cases r <;> rfl
@[simp] theorem State.set16_notices (s : State) (r : Reg16) (w : Word) : (s.set16 r w).notices = s.notices := by cases r <;> rfl
@[simp] theorem State.set16_returned (s : State) (r : Reg16) (w : Word) : (s.set16 r w).returned = s.returned := by cases r <;> rfl

@[simp] theorem State.set16_af_af (s : State) (w : Word) : (s.set16 .af w).af = w := rfl
@[simp] theorem State.set16_af_bc (s : State) (w : Word) : (s.set16 .af w).bc = s.bc := rfl
@[simp] theorem State.set16_af_de (s : State) (w : Word) : (s.set16 .af w).de = s.de := rfl
@[simp] theorem State.set16_af_hl (s : State) (w : Word) : (s.set16 .af w).hl = s.hl := rfl
@[simp] theorem State.set16_af_sp (s : State) (w : Word) : (s.set16 .af w).sp = s.sp := rfl
@[simp] theorem State.set16_af_pc (s : State) (w : Word) : (s.set16 .af w).pc = s.pc := rfl
@[simp] theorem State.set16_bc_af (s : State) (w : Word) : (s.set16 .bc w).af = s.af := rfl
@[simp] theorem State.set16_bc_bc (s : State) (w : Word) : (s.set16 .bc w).bc = w := rfl
@[simp] theorem State.set16_bc_de (s : State) (w : Word) : (s.set16 .bc w).de = s.de := rfl
@[simp] theorem State.set16_bc_hl (s : State) (w : Word) : (s.set16 .bc w).hl = s.hl := rfl
@[simp] theorem State.set16_bc_sp (s : State) (w : Word) : (s.set16 .bc w).sp = s.sp := rfl
@[simp] theorem State.set16_bc_pc (s : State) (w : Word) : (s.set16 .bc w).pc = s.pc := rfl
@[simp] theorem State.set16_de_af (s : State) (w : Word) : (s.set16 .de w).af = s.af := rfl
@[simp] theorem State.set16_de_bc (s : State) (w : Word) : (s.set16 .de w).bc = s.bc := rfl
@[simp] theorem State.set16_de_de (s : State) (w : Word) : (s.set16 .de w).de = w := rfl
@[simp] theorem State.set16_de_hl (s : State) (w : Word) : (s.set16 .de w).hl = s.hl := rfl
@[simp] theorem State.set16_de_sp (s : State) (w : Word) : (s.set16 .de w).sp = s.sp := rfl
@[simp] theorem State.set16_de_pc (s : State) (w : Word) : (s.set16 .de w).pc = s.pc := rfl
@[simp] theorem State.set16_hl_af (s : State) (w : Word) : (s.set16 .hl w).af = s.af := rfl
@[simp] theorem State.set16_hl_bc (s : State) (w : Word) : (s.set16 .hl w).bc = s.bc := rfl
@[simp] theorem State.set16_hl_de (s : State) (w : Word) : (s.set16 .hl w).de = s.de := rfl
@[simp] theorem State.set16_hl_hl (s : State) (w : Word) : (s.set16 .hl w).hl = w := rfl
@[simp] theorem State.set16_hl_sp (s : State) (w : Word) : (s.set16 .hl w).sp = s.sp := rfl
@[simp] theorem State.set16_hl_pc (s : State) (w : Word) : (s.set16 .hl w).pc = s.pc := rfl
@[simp] theorem State.set16_sp_af (s : State) (w : Word) : (s.set16 .sp w).af = s.af := rfl
@[simp] theorem State.set16_sp_bc (s : State) (w : Word) : (s.set16 .sp w).bc = s.bc := rfl
@[simp] theorem State.set16_sp_de (s : State) (w : Word) : (s.set16 .sp w).de = s.de := rfl
@[simp] theorem State.set16_sp_hl (s : State) (w : Word) : (s.set16 .sp w).hl = s.hl := rfl
@[simp] theorem State.set16_sp_sp (s : State) (w : Word) : (s.set16 .sp w).sp = w := rfl
@[simp] theorem State.set16_sp_pc (s : State) (w : Word) : (s.set16 .sp w).pc = s.pc := rfl
@[simp] theorem State.set16_pc_af (s : State) (w : Word) : (s.set16 .pc w).af = s.af := rfl
@[simp] theorem State.set16_pc_bc (s : State) (w : Word) : (s.set16 .pc w).bc = s.bc := rfl
@[simp] theorem State.set16_pc_de (s : State) (w : Word) : (s.set16 .pc w).de = s.de := rfl
@[simp] theorem State.set16_pc_hl (s : State) (w : Word) : (s.set16 .pc w).hl = s.hl := rfl
@[simp] theorem State.set16_pc_sp (s : State) (w : Word) : (s.set16 .pc w).sp = s.sp := rfl
@[simp] theorem State.set16_pc_pc (s : State) (w : Word) : (s.set16 .pc w).pc = w := rfl

@[simp] theorem State.setFlag_bc (s : State) (g : Flag) (v : Bool) : (s.setFlag g v).bc = s.bc := rfl
@[simp] theorem State.setFlag_de (s : State) (g : Flag) (v : Bool) : (s.setFlag g v).de = s.de := rfl
@[simp] theorem State.setFlag_hl (s : State) (g : Flag) (v : Bool) : (s.setFlag g v).hl = s.hl := rfl
@[simp] theorem State.setFlag_sp (s : State) (g : Flag) (v : Bool) : (s.setFlag g v).sp = s.sp := rfl
@[simp] theorem State.setFlag_pc (s : State) (g : Flag) (v : Bool) : (s.setFlag g v).pc = s.pc := rfl
@[simp] theorem State.setFlag_bus (s : State) (g : Flag) (v : Bool) : (s.setFlag g v).bus = s.bus := rfl
@[simp] theorem State.setFlag_freqHz (s : State) (g : Flag) (v : Bool) : (s.setFlag g v).freqHz = s.freqHz := rfl
@[simp] theorem State.setFlag_flagBits (s : State) (g : Flag) (v : Bool) : (s.setFlag g v).flagBits = s.flagBits := rfl
@[simp] theorem State.setFlag_intHook (s : State) (g : Flag) (v : Bool) : (s.setFlag g v).intHook = s.intHook := rfl
@[simp] theorem State.setFlag_notices (s : State) (g : Flag) (v : Bool) : (s.setFlag g v).notices = s.notices := rfl
@[simp] theorem State.setFlag_returned (s : State) (g : Flag) (v : Bool) : (s.setFlag g v).returned = s.returned := rfl

@[simp] theorem State.clearHCN_bc (s : State) : s.clearHCN.bc = s.bc := rfl
@[simp] theorem State.clearHCN_de (s : State) : s.clearHCN.de = s.de := rfl
@[simp] theorem State.clearHCN_hl (s : State) : s.clearHCN.hl = s.hl := rfl
@[simp] theorem State.clearHCN_sp (s : State) : s.clearHCN.sp = s.sp := rfl
@[simp] theorem State.clearHCN_pc (s : State) : s.clearHCN.pc = s.pc := rfl
@[simp] theorem State.clearHCN_bus (s : State) : s.clearHCN.bus = s.bus := rfl
@[simp] theorem State.clearHCN_freqHz (s : State) : s.clearHCN.freqHz = s.freqHz := rfl
@[simp] theorem State.clearHCN_flagBits (s : State) : s.clearHCN.flagBits = s.flagBits := rfl
@[simp] theorem State.clearHCN_intHook (s : State) : s.clearHCN.intHook = s.intHook := rfl
@[simp] theorem State.clearHCN_notices (s : State) : s.clearHCN.notices = s.notices := rfl
@[simp] theorem State.clearHCN_returned (s : State) : s.clearHCN.returned = s.returned := rfl

@[simp] theorem State.raiseFlag_bc (s : State) (g : Flag) (p : Bool) : (s.raiseFlag g p).bc = s.bc := by
  cases p <;> rfl
@[simp] theorem State.raiseFlag_de (s : State) (g : Flag) (p : Bool) : (s.raiseFlag g p).de = s.de := by
  cases p <;> rfl
@[simp] theorem State.raiseFlag_hl (s : State) (g : Flag) (p : Bool) : (s.raiseFlag g p).hl = s.hl := by
  cases p <;> rfl
@[simp] theorem State.raiseFlag_sp (s : State) (g : Flag) (p : Bool) : (s.raiseFlag g p).sp = s.sp := by
  cases p <;> rfl
@[simp] theorem State.raiseFlag_pc (s : State) (g : Flag) (p : Bool) : (s.raiseFlag g p).pc = s.pc := by
  cases p <;> rfl
@[simp] theorem State.raiseFlag_bus (s : State) (g : Flag) (p : Bool) : (s.raiseFlag g p).bus = s.bus := by
  cases p <;> rfl
@[simp] theorem State.raiseFlag_freqHz (s : State) (g : Flag) (p : Bool) : (s.raiseFlag g p).freqHz = s.freqHz := by
  cases p <;> rfl
@[simp] theorem State.raiseFlag_flagBits (s : State) (g : Flag) (p : Bool) : (s.raiseFlag g p).flagBits = s.flagBits := by
  cases p <;> rfl
@[simp] theorem State.raiseFlag_intHook (s : State) (g : Flag) (p : Bool) : (s.raiseFlag g p).intHook = s.intHook := by
  cases p <;> rfl
@[simp] theorem State.raiseFlag_notices (s : State) (g : Flag) (p : Bool) : (s.raiseFlag g p).notices = s.notices := by
  cases p <;> rfl
@[simp] theorem State.raiseFlag_returned (s : State) (g : Flag) (p : Bool) : (s.raiseFlag g p).returned = s.returned := by
  cases p <;> rfl

@[simp] theorem State.afterRead_af (s : State) (a : Word) : (s.afterRead a).af = s.af := rfl
@[simp] theorem State.afterRead_bc (s : State) (a : Word) : (s.afterRead a).bc = s.bc := rfl
@[simp] theorem State.afterRead_de (s : State) (a : Word) : (s.afterRead a).de = s.de := rfl
@[simp] theorem State.afterRead_hl (s : State) (a : Word) : (s.afterRead a).hl = s.hl := rfl
@[simp] theorem State.afterRead_sp (s : State) (a : Word) : (s.afterRead a).sp = s.sp := rfl
@[simp] theorem State.afterRead_pc (s : State) (a : Word) : (s.afterRead a).pc = s.pc := rfl
@[simp] theorem State.afterRead_freqHz (s : State) (a : Word) : (s.afterRead a).freqHz = s.freqHz := rfl
@[simp] theorem State.afterRead_flagBits (s : State) (a : Word) : (s.afterRead a).flagBits = s.flagBits := rfl
@[simp] theorem State.afterRead_intHook (s : State) (a : Word) : (s.afterRead a).intHook = s.intHook := rfl
@[simp] theorem State.afterRead_notices (s : State) (a : Word) : (s.afterRead a).notices = s.notices := rfl
@[simp] theorem State.afterRead_returned (s : State) (a : Word) : (s.afterRead a).returned = s.returned := rfl
@[simp] theorem State.afterRead_bus (s : State) (a : Word) : (s.afterRead a).bus = s.bus.afterRead a := rfl
@[simp] theorem State.afterRead_flag (s : State) (a : Word) (g : Flag) : (s.afterRead a).flag g = s.flag g := rfl

@[simp] theorem State.afterRead_get8 (s : State) (a : Word) (r : Reg8) : (s.afterRead a).get8 r = s.get8 r := by
  cases r <;> rfl

@[simp] theorem State.afterRead_get16 (s : State) (a : Word) (r : Reg16) : (s.afterRead a).get16 r = s.get16 r := by
  cases r <;> rfl

@[simp] theorem State.afterReads_af (s : State) (as : List Word) : (s.afterReads as).af = s.af := rfl
@[simp] theorem State.afterReads_bc (s : State) (as : List Word) : (s.afterReads as).bc = s.bc := rfl
@[simp] theorem State.afterReads_de (s : State) (as : List Word) : (s.afterReads as).de = s.de := rfl
@[simp] theorem State.afterReads_hl (s : State) (as : List Word) : (s.afterReads as).hl = s.hl := rfl
@[simp] theorem State.afterReads_sp (s : State) (as : List Word) : (s.afterReads as).sp = s.sp := rfl
@[simp] theorem State.afterReads_pc (s : State) (as : List Word) : (s.afterReads as).pc = s.pc := rfl
@[simp] theorem State.afterReads_freqHz (s : State) (as : List Word) : (s.afterReads as).freqHz = s.freqHz := rfl
@[simp] theorem State.afterReads_flagBits (s : State) (as : List Word) : (s.afterReads as).flagBits = s.flagBits := rfl
@[simp] theorem State.afterReads_intHook (s : State) (as : List Word) : (s.afterReads as).intHook = s.intHook := rfl
@[simp] theorem State.afterReads_notices (s : State) (as : List Word) : (s.afterReads as).notices = s.notices := rfl
@[simp] theorem State.afterReads_returned (s : State) (as : List Word) : (s.afterReads as).returned = s.returned := rfl
@[simp] theorem State.afterReads_bus (s : State) (as : List Word) : (s.afterReads as).bus = s.bus.afterReads as := rfl
@[simp] theorem State.afterReads_flag (s : State) (as : List Word) (g : Flag) : (s.afterReads as).flag g = s.flag g := rfl
@[simp] theorem State.afterReads_nil (s : State) : s.afterReads [] = s := rfl

@[simp] theorem State.afterReads_get8 (s : State) (as : List Word) (r : Reg8) : (s.afterReads as).get8 r = s.get8 r := by
  cases r <;> rfl

@[simp] theorem State.afterReads_get16 (s : State) (as : List Word) (r : Reg16) :
    (s.afterReads as).get16 r = s.get16 r := by
  cases r <;> rfl

@[simp] theorem State.advance_af (s : State) (w : Nat) : (s.advance w).af = s.af := rfl
@[simp] theorem State.advance_bc (s : State) (w : Nat) : (s.advance w).bc = s.bc := rfl
@[simp] theorem State.advance_de (s : State) (w : Nat) : (s.advance w).de = s.de := rfl
@[simp] theorem State.advance_hl (s : State) (w : Nat) : (s.advance w).hl = s.hl := rfl
@[simp] theorem State.advance_sp (s : State) (w : Nat) : (s.advance w).sp = s.sp := rfl
@[simp] theorem State.advance_pc (s : State) (w : Nat) : (s.advance w).pc = s.pc + BitVec.ofNat 16 w := rfl
@[simp] theorem State.advance_bus (s : State) (w : Nat) : (s.advance w).bus = s.bus := rfl
@[simp] theorem State.advance_freqHz (s : State) (w : Nat) : (s.advance w).freqHz = s.freqHz := rfl
@[simp] theorem State.advance_flagBits (s : State) (w : Nat) : (s.advance w).flagBits = s.flagBits := rfl
@[simp] theorem State.advance_intHook (s : State) (w : Nat) : (s.advance w).intHook = s.intHook := rfl
@[simp] theorem State.advance_notices (s : State) (w : Nat) : (s.advance w).notices = s.notices := rfl
@[simp] theorem State.advance_returned (s : State) (w : Nat) : (s.advance w).returned = s.returned := rfl

@[simp] theorem State.notify_af (s : State) (c : Nat) : (s.notify c).af = s.af := rfl
@[simp] theorem State.notify_bc (s : State) (c : Nat) : (s.notify c).bc = s.bc := rfl
@[simp] theorem State.notify_de (s : State) (c : Nat) : (s.notify c).de = s.de := rfl
@[simp] theorem State.notify_hl (s : State) (c : Nat) : (s.notify c).hl = s.hl := rfl
@[simp] theorem State.notify_sp (s : State) (c : Nat) : (s.notify c).sp = s.sp := rfl
@[simp] theorem State.notify_pc (s : State) (c : Nat) : (s.notify c).pc = s.pc := rfl
@[simp] theorem State.notify_bus (s : State) (c : Nat) : (s.notify c).bus = s.bus.catchup (s.cycleTime c) := rfl
@[simp] theorem State.notify_freqHz (s : State) (c : Nat) : (s.notify c).freqHz = s.freqHz := rfl
@[simp] theorem State.notify_flagBits (s : State) (c : Nat) : (s.notify c).flagBits = s.flagBits := rfl
@[simp] theorem State.notify_intHook (s : State) (c : Nat) : (s.notify c).intHook = s.intHook := rfl
@[simp] theorem State.notify_notices (s : State) (c : Nat) : (s.notify c).notices = s.cycleTime c :: s.notices := rfl
@[simp] theorem State.notify_returned (s : State) (c : Nat) : (s.notify c).returned = s.returned := rfl

@[simp] theorem State.giveCost_af (s : State) (c : Nat) : (s.giveCost c).af = s.af := rfl
@[simp] theorem State.giveCost_bc (s : State) (c : Nat) : (s.giveCost c).bc = s.bc := rfl
@[simp] theorem State.giveCost_de (s : State) (c : Nat) : (s.giveCost c).de = s.de := rfl
@[simp] theorem State.giveCost_hl (s : State) (c : Nat) : (s.giveCost c).hl = s.hl := rfl
@[simp] theorem State.giveCost_sp (s : State) (c : Nat) : (s.giveCost c).sp = s.sp := rfl
@[simp] theorem State.giveCost_pc (s : State) (c : Nat) : (s.giveCost c).pc = s.pc := rfl
@[simp] theorem State.giveCost_bus (s : State) (c : Nat) : (s.giveCost c).bus = s.bus := rfl
@[simp] theorem State.giveCost_freqHz (s : State) (c : Nat) : (s.giveCost c).freqHz = s.freqHz := rfl
@[simp] theorem State.giveCost_flagBits (s : State) (c : Nat) : (s.giveCost c).flagBits = s.flagBits := rfl
@[simp] theorem State.giveCost_intHook (s : State) (c : Nat) : (s.giveCost c).intHook = s.intHook := rfl
@[simp] theorem State.giveCost_notices (s : State) (c : Nat) : (s.giveCost c).notices = s.notices := rfl
@[simp] theorem State.giveCost_returned (s : State) (c : Nat) : (s.giveCost c).returned = some c := rfl

@[simp] theorem State.conclude_af (s : State) (w c : Nat) : (s.conclude w c).af = s.af := rfl
@[simp] theorem State.conclude_bc (s : State) (w c : Nat) : (s.conclude w c).bc = s.bc := rfl
@[simp] theorem State.conclude_de (s : State) (w c : Nat) : (s.conclude w c).de = s.de := rfl
@[simp] theorem State.conclude_hl (s : State) (w c : Nat) : (s.conclude w c).hl = s.hl := rfl
@[simp] theorem State.conclude_sp (s : State) (w c : Nat) : (s.conclude w c).sp = s.sp := rfl
@[simp] theorem State.conclude_pc (s : State) (w c : Nat) : (s.conclude w c).pc = s.pc + BitVec.ofNat 16 w := rfl
@[simp] theorem State.conclude_bus (s : State) (w c : Nat) : (s.conclude w c).bus = s.bus.catchup (s.cycleTime c) := rfl
@[simp] theorem State.conclude_freqHz (s : State) (w c : Nat) : (s.conclude w c).freqHz = s.freqHz := rfl
@[simp] theorem State.conclude_flagBits (s : State) (w c : Nat) : (s.conclude w c).flagBits = s.flagBits := rfl
@[simp] theorem State.conclude_intHook (s : State) (w c : Nat) : (s.conclude w c).intHook = s.intHook := rfl
@[simp] theorem State.conclude_notices (s : State) (w c : Nat) : (s.conclude w c).notices = s.cycleTime c :: s.notices := rfl
@[simp] theorem State.conclude_returned (s : State) (w c : Nat) : (s.conclude w c).returned = some c := rfl

@[simp] theorem State.conclude_get8 (s : State) (w c : Nat) (r : Reg8) : (s.conclude w c).get8 r = s.get8 r := by
  cases r <;> rfl

@[simp] theorem State.conclude_flag (s : State) (w c : Nat) (g : Flag) : (s.conclude w c).flag g = s.flag g := rfl

/-- Writing one half and reading it. -/
@[simp] theorem State.get8_set8_same (s : State) (r : Reg8) (v : Byte) : (s.set8 r v).get8 r = v := by
  cases r <;> simp [State.get8]

/-- Writing one half leaves the other seven (spec/10_state.md R26). -/
theorem State.get8_set8_other (s : State) {r q : Reg8} (v : Byte) (h : q ≠ r) : (s.set8 r v).get8 q = s.get8 q := by
  cases r <;> cases q <;> first | exact absurd rfl h | simp [State.get8]

/-- Writing one Word and reading it. -/
@[simp] theorem State.get16_set16_same (s : State) (r : Reg16) (w : Word) : (s.set16 r w).get16 r = w := by
  cases r <;> rfl

/-- Writing one Word leaves the other five (R27). -/
theorem State.get16_set16_other (s : State) {r q : Reg16} (w : Word) (h : q ≠ r) :
    (s.set16 r w).get16 q = s.get16 q := by
  cases r <;> cases q <;> first | exact absurd rfl h | rfl

theorem State.cycleTime_advance (s : State) (w c : Nat) : (s.advance w).cycleTime c = s.cycleTime c := rfl

@[simp] theorem State.advance_get8 (s : State) (w : Nat) (r : Reg8) : (s.advance w).get8 r = s.get8 r := by
  cases r <;> rfl

@[simp] theorem State.notify_get8 (s : State) (c : Nat) (r : Reg8) : (s.notify c).get8 r = s.get8 r := by
  cases r <;> rfl

@[simp] theorem State.giveCost_get8 (s : State) (c : Nat) (r : Reg8) : (s.giveCost c).get8 r = s.get8 r := by
  cases r <;> rfl

@[simp] theorem State.advance_flag (s : State) (w : Nat) (g : Flag) : (s.advance w).flag g = s.flag g := rfl

@[simp] theorem State.notify_flag (s : State) (c : Nat) (g : Flag) : (s.notify c).flag g = s.flag g := rfl

@[simp] theorem State.giveCost_flag (s : State) (c : Nat) (g : Flag) : (s.giveCost c).flag g = s.flag g := rfl

end Sys2Proof.Machine
end

