-- ==== Sys2Proof/Laws/Flags.lean ====
section
/-! SUPPORT. Laws of the flags: what setting one does to every bit of F, and everything ADD does (spec/10_state.md R31 to
R34, spec/43_add.md R200 to R203). -/
namespace Sys2Proof.Machine

/-- A flag's place in AF lies in F. -/
theorem FlagBits.index_lt (p : FlagBits) (g : Flag) : (p.index g).val < 8 := (p.pos g).isLt

/-- Distinct positions (R6): two flags have two places. -/
theorem FlagBits.index_ne {p : FlagBits} (hd : p.distinct = true) {g g' : Flag} (h : g' ≠ g) :
    (p.index g').val ≠ (p.index g).val := by
  simp only [FlagBits.distinct, Bool.and_eq_true, bne_iff_ne] at hd
  obtain ⟨⟨⟨⟨⟨h1, h2⟩, h3⟩, h4⟩, h5⟩, h6⟩ := hd
  intro e
  cases g <;> cases g' <;> simp only [FlagBits.index, FlagBits.pos] at e <;>
    first
    | exact absurd rfl h
    | exact h1 (Fin.ext e) | exact h2 (Fin.ext e) | exact h3 (Fin.ext e)
    | exact h4 (Fin.ext e) | exact h5 (Fin.ext e) | exact h6 (Fin.ext e)
    | exact h1 (Fin.ext e.symm) | exact h2 (Fin.ext e.symm) | exact h3 (Fin.ext e.symm)
    | exact h4 (Fin.ext e.symm) | exact h5 (Fin.ext e.symm) | exact h6 (Fin.ext e.symm)

/-- What setting or clearing a flag does to each bit of AF. -/
theorem State.setFlag_bit (s : State) (g : Flag) (v : Bool) (k : Nat) :
    (s.setFlag g v).af.getLsbD k = if k = (s.flagBits.index g).val then v else s.af.getLsbD k := by
  cases v <;> simp only [State.setFlag, Bool.false_eq_true, if_true, if_false]
  · rw [getLsbD_unsetBit]; split <;> simp_all
  · rw [getLsbD_setBit]; split <;> simp_all

/-- Raising a flag: what it does to each bit of AF. -/
theorem State.raiseFlag_bit (s : State) (g : Flag) (p : Bool) (k : Nat) :
    (s.raiseFlag g p).af.getLsbD k = (s.af.getLsbD k || (p && decide (k = (s.flagBits.index g).val))) := by
  cases p
  · simp [State.raiseFlag]
  · simp only [State.raiseFlag, if_true, State.setFlag_bit]
    split <;> simp_all

/-- Clearing H, C and N: what it does to each bit of AF. -/
theorem State.clearHCN_bit (s : State) (k : Nat) :
    s.clearHCN.af.getLsbD k = (s.af.getLsbD k && !(decide (k = (s.flagBits.index .h).val) ||
      decide (k = (s.flagBits.index .c).val) || decide (k = (s.flagBits.index .n).val))) := by
  simp only [State.clearHCN, State.setFlag_bit, State.setFlag_flagBits]
  split
  · simp_all
  · split
    · simp_all
    · split <;> simp_all

theorem State.flag_eq (s : State) (g : Flag) : s.flag g = s.af.getLsbD (s.flagBits.index g).val := rfl

/-- A flag operation leaves A. -/
theorem State.setFlag_high (s : State) (g : Flag) (v : Bool) : getHigh (s.setFlag g v).af = getHigh s.af := by
  cases v
  · exact getHigh_unsetBit _ _ (FlagBits.index_lt _ _)
  · exact getHigh_setBit _ _ (FlagBits.index_lt _ _)

theorem State.raiseFlag_high (s : State) (g : Flag) (p : Bool) : getHigh (s.raiseFlag g p).af = getHigh s.af := by
  cases p
  · rfl
  · exact State.setFlag_high s g true

theorem State.clearHCN_high (s : State) : getHigh s.clearHCN.af = getHigh s.af := by
  simp only [State.clearHCN, State.setFlag_high]

/-- A flag operation leaves every 8-bit register but F. -/
theorem State.raiseFlag_get8 (s : State) (g : Flag) (p : Bool) {q : Reg8} (hq : q ≠ .f) :
    (s.raiseFlag g p).get8 q = s.get8 q := by
  cases q <;> first | exact absurd rfl hq | simp [State.get8, State.raiseFlag_high]

theorem State.clearHCN_get8 (s : State) {q : Reg8} (hq : q ≠ .f) : s.clearHCN.get8 q = s.get8 q := by
  cases q <;> first | exact absurd rfl hq | simp [State.get8, State.clearHCN_high]

/-- Writing an 8-bit register other than F leaves the bits of F. -/
theorem State.set8_low_bit (s : State) {r : Reg8} (v : Byte) (hr : r ≠ .f) {k : Nat} (hk : k < 8) :
    (s.set8 r v).af.getLsbD k = s.af.getLsbD k := by
  have key : ∀ w : Word, w.getLsbD k = (getLow w).getLsbD k := fun w => by rw [getLsbD_getLow]; simp only [hk, decide_true, Bool.true_and]
  cases r <;> first | exact absurd rfl hr | rfl | (rw [key, key]; simp)

/-- Writing a Word other than AF leaves AF. -/
theorem State.set16_af (s : State) {r : Reg16} (w : Word) (hr : r ≠ .af) : (s.set16 r w).af = s.af := by
  cases r <;> first | exact absurd rfl hr | rfl

section Add8

variable (s : State) {r : Reg8} (a b : Byte)

theorem State.add8_sp : (s.add8 r a b).sp = s.sp := by simp [State.add8]
theorem State.add8_pc : (s.add8 r a b).pc = s.pc := by simp [State.add8]
theorem State.add8_bus : (s.add8 r a b).bus = s.bus := by simp [State.add8]
theorem State.add8_freqHz : (s.add8 r a b).freqHz = s.freqHz := by simp [State.add8]
theorem State.add8_flagBits : (s.add8 r a b).flagBits = s.flagBits := by simp [State.add8]
theorem State.add8_intHook : (s.add8 r a b).intHook = s.intHook := by simp [State.add8]
theorem State.add8_notices : (s.add8 r a b).notices = s.notices := by simp [State.add8]
theorem State.add8_returned : (s.add8 r a b).returned = s.returned := by simp [State.add8]

/-- The destination holds the wrapped sum (R201). -/
theorem State.add8_dest (hr : r ≠ .f) : (s.add8 r a b).get8 r = a + b := by
  simp [State.add8, State.raiseFlag_get8 _ _ _ hr]

/-- Every other 8-bit register but F is left. -/
theorem State.add8_other {q : Reg8} (hq : q ≠ r) (hf : q ≠ .f) : (s.add8 r a b).get8 q = s.get8 q := by
  simp [State.add8, State.raiseFlag_get8 _ _ _ hf, State.get8_set8_other _ _ hq, State.clearHCN_get8 _ hf]

/-- Every bit of F after the 8-bit ADD (R200, R201, R203). -/
theorem State.add8_bit (hr : r ≠ .f) {k : Nat} (hk : k < 8) :
    (s.add8 r a b).af.getLsbD k =
      ((s.af.getLsbD k && !(decide (k = (s.flagBits.index .h).val) || decide (k = (s.flagBits.index .c).val) ||
          decide (k = (s.flagBits.index .n).val))) ||
        (halfCarry8 a b && decide (k = (s.flagBits.index .h).val)) ||
        (carry8 a b && decide (k = (s.flagBits.index .c).val)) ||
        ((a + b == 0#8) && decide (k = (s.flagBits.index .z).val))) := by
  simp only [State.add8, State.raiseFlag_bit, State.set8_low_bit _ _ hr hk, State.clearHCN_bit,
    State.set8_flagBits, State.raiseFlag_flagBits, State.clearHCN_flagBits, State.get8_set8_same]
  rfl

/-- The four flags after the 8-bit ADD (R200, R201, R203). -/
theorem State.add8_flags (hd : s.flagBits.distinct = true) (hr : r ≠ .f) :
    (s.add8 r a b).flag .n = false ∧ (s.add8 r a b).flag .h = halfCarry8 a b ∧
      (s.add8 r a b).flag .c = carry8 a b ∧ (s.add8 r a b).flag .z = (s.flag .z || (a + b == 0#8)) := by
  simp only [State.flag_eq, State.add8_flagBits, State.add8_bit s a b hr (FlagBits.index_lt _ _)]
  have ne := fun (g g' : Flag) (h : g' ≠ g) => FlagBits.index_ne hd h
  simp [ne .h .n (by decide), ne .c .n (by decide), ne .z .n (by decide), ne .c .h (by decide),
    ne .n .h (by decide), ne .z .h (by decide), ne .h .c (by decide), ne .n .c (by decide), ne .z .c (by decide),
    ne .h .z (by decide), ne .c .z (by decide), ne .n .z (by decide)]

/-- A bit of F that is no flag is left (R34). -/
theorem State.add8_unused (hr : r ≠ .f) {k : Nat} (hk : k < 8) (hu : ∀ g, k ≠ (s.flagBits.index g).val) :
    (s.add8 r a b).af.getLsbD k = s.af.getLsbD k := by
  simp [State.add8_bit s a b hr hk, hu .h, hu .c, hu .n, hu .z]

end Add8

section Add16

variable (s : State) {r : Reg16} (a b : Word)

theorem State.add16_bus : (s.add16 r a b).bus = s.bus := by simp [State.add16]
theorem State.add16_freqHz : (s.add16 r a b).freqHz = s.freqHz := by simp [State.add16]
theorem State.add16_flagBits : (s.add16 r a b).flagBits = s.flagBits := by simp [State.add16]
theorem State.add16_intHook : (s.add16 r a b).intHook = s.intHook := by simp [State.add16]
theorem State.add16_notices : (s.add16 r a b).notices = s.notices := by simp [State.add16]
theorem State.add16_returned : (s.add16 r a b).returned = s.returned := by simp [State.add16]

/-- A flag operation leaves every Word but AF. -/
theorem State.raiseFlag_get16 (g : Flag) (p : Bool) {q : Reg16} (hq : q ≠ .af) :
    (s.raiseFlag g p).get16 q = s.get16 q := by
  cases q <;> first | exact absurd rfl hq | simp [State.get16]

theorem State.clearHCN_get16 {q : Reg16} (hq : q ≠ .af) : s.clearHCN.get16 q = s.get16 q := by
  cases q <;> first | exact absurd rfl hq | simp [State.get16]

/-- The destination holds the wrapped sum (R202). -/
theorem State.add16_dest (hr : r ≠ .af) : (s.add16 r a b).get16 r = a + b := by
  simp [State.add16, State.raiseFlag_get16 _ _ _ hr]

/-- Every other Word but AF is left. -/
theorem State.add16_other {q : Reg16} (hq : q ≠ r) (hf : q ≠ .af) : (s.add16 r a b).get16 q = s.get16 q := by
  simp [State.add16, State.raiseFlag_get16 _ _ _ hf, State.get16_set16_other _ _ hq, State.clearHCN_get16 _ hf]

/-- Every bit of AF after the 16-bit ADD (R200, R202, R203). -/
theorem State.add16_bit (hr : r ≠ .af) (k : Nat) :
    (s.add16 r a b).af.getLsbD k =
      ((s.af.getLsbD k && !(decide (k = (s.flagBits.index .h).val) || decide (k = (s.flagBits.index .c).val) ||
          decide (k = (s.flagBits.index .n).val))) ||
        (halfCarry16 a b && decide (k = (s.flagBits.index .h).val)) ||
        (carry16 a b && decide (k = (s.flagBits.index .c).val)) ||
        ((a + b == 0#16) && decide (k = (s.flagBits.index .z).val))) := by
  simp only [State.add16, State.raiseFlag_bit, State.set16_af _ _ hr, State.clearHCN_bit,
    State.set16_flagBits, State.raiseFlag_flagBits, State.clearHCN_flagBits, State.get16_set16_same]
  rfl

/-- The four flags after the 16-bit ADD (R200, R202, R203). -/
theorem State.add16_flags (hd : s.flagBits.distinct = true) (hr : r ≠ .af) :
    (s.add16 r a b).flag .n = false ∧ (s.add16 r a b).flag .h = halfCarry16 a b ∧
      (s.add16 r a b).flag .c = carry16 a b ∧ (s.add16 r a b).flag .z = (s.flag .z || (a + b == 0#16)) := by
  simp only [State.flag_eq, State.add16_flagBits, State.add16_bit s a b hr]
  have ne := fun (g g' : Flag) (h : g' ≠ g) => FlagBits.index_ne hd h
  simp [ne .h .n (by decide), ne .c .n (by decide), ne .z .n (by decide), ne .c .h (by decide),
    ne .n .h (by decide), ne .z .h (by decide), ne .h .c (by decide), ne .n .c (by decide), ne .z .c (by decide),
    ne .h .z (by decide), ne .c .z (by decide), ne .n .z (by decide)]

/-- A is left, and a bit of F that is no flag is left (R34). -/
theorem State.add16_unused (hr : r ≠ .af) {k : Nat} (hu : ∀ g, k ≠ (s.flagBits.index g).val) :
    (s.add16 r a b).af.getLsbD k = s.af.getLsbD k := by
  simp [State.add16_bit s a b hr k, hu .h, hu .c, hu .n, hu .z]

end Add16

end Sys2Proof.Machine
end

