-- ==== Sys2Proof/Laws/Trace.lean ====
section
/-! SUPPORT. Laws of sequencing: what a computation answers, and how the end of a step and the delivery of a fault
read it (spec/40_step_and_operands.md R149, R150). -/
namespace Sys2Proof.Machine

variable {α β : Type}

@[simp] theorem Traced.pure_result (a : α) : (Traced.pure a).result = .ok a := rfl
@[simp] theorem Traced.pure_events (a : α) : (Traced.pure a).events = [] := rfl
@[simp] theorem Traced.raise_result (f : Fault) : (Traced.raise f : Traced α).result = .error f := rfl
@[simp] theorem Traced.raise_events (f : Fault) : (Traced.raise f : Traced α).events = [] := rfl
@[simp] theorem Traced.lift_result (x : Except Fault α) : (Traced.lift x).result = x := rfl
@[simp] theorem Traced.lift_events (x : Except Fault α) : (Traced.lift x).events = [] := rfl
@[simp] theorem memRead_result (s : State) (a : Word) : (memRead s a).result = s.busRead a := rfl
@[simp] theorem memRead_events (s : State) (a : Word) : (memRead s a).events = [.read a] := rfl
@[simp] theorem memWrite_result (s : State) (a : Word) (v : Byte) : (memWrite s a v).result = s.busWrite a v := rfl
@[simp] theorem memWrite_events (s : State) (a : Word) (v : Byte) : (memWrite s a v).events = [.write a v] := rfl
@[simp] theorem finish_events (w c : Nat) (s : State) : (finish w c s).events = [.catchup (s.cycleTime c)] := rfl

@[simp] theorem finish_result (w c : Nat) (s : State) :
    (finish w c s).result = .ok (s.conclude w c) := rfl

/-- After a value, the rest runs. -/
theorem Traced.bind_of_ok {x : Traced α} {a : α} (h : x.result = .ok a) (k : α → Traced β) :
    x.bind k = ⟨x.events ++ (k a).events, (k a).result⟩ := by
  unfold Traced.bind; rw [h]

/-- After a fault, nothing more runs (R150). -/
theorem Traced.bind_of_error {x : Traced α} {f : Fault} (h : x.result = .error f) (k : α → Traced β) :
    x.bind k = ⟨x.events, .error f⟩ := by
  unfold Traced.bind; rw [h]

@[simp] theorem Traced.pure_bind (a : α) (k : α → Traced β) : (Traced.pure a).bind k = k a := by
  simp [Traced.bind]

@[simp] theorem Traced.raise_bind (f : Fault) (k : α → Traced β) :
    (Traced.raise f : Traced α).bind k = .raise f := rfl

/-- When a sequence answers a value, both parts did. -/
theorem Traced.bind_result_ok {x : Traced α} {k : α → Traced β} {b : β} :
    (x.bind k).result = .ok b ↔ ∃ a, x.result = .ok a ∧ (k a).result = .ok b := by
  cases h : x.result with
  | ok a => simp [Traced.bind_of_ok h]
  | error f => simp [Traced.bind_of_error h]

/-- When a sequence faults, its first part did, or its second. -/
theorem Traced.bind_result_error {x : Traced α} {k : α → Traced β} {f : Fault} :
    (x.bind k).result = .error f ↔
      x.result = .error f ∨ ∃ a, x.result = .ok a ∧ (k a).result = .error f := by
  cases h : x.result with
  | ok a => simp [Traced.bind_of_ok h]
  | error g => simp [Traced.bind_of_error h]

/-- A Bus event of a sequence is one of its first part, or one of its second. -/
theorem Traced.mem_bind_events {x : Traced α} {k : α → Traced β} {e : BusEvent} (h : e ∈ (x.bind k).events) :
    e ∈ x.events ∨ ∃ a, x.result = .ok a ∧ e ∈ (k a).events := by
  cases hx : x.result with
  | ok a => simpa [Traced.bind_of_ok hx] using h
  | error f => exact .inl (by simpa [Traced.bind_of_error hx] using h)

/-- A step answers a next state exactly when its computation has one. -/
@[simp] theorem deliver_next {x : Traced State} {t : State} : deliver x = .next t ↔ x.result = .ok t := by
  unfold deliver
  cases x.result <;> simp

/-- A step answers a fault exactly when its computation raised it (R236). -/
@[simp] theorem deliver_fault {x : Traced State} {f : Fault} : deliver x = .fault f ↔ x.result = .error f := by
  unfold deliver
  cases x.result <;> simp

/-- A Bus read that succeeds answers the byte, and the machine after the read. -/
theorem State.busRead_ok {s t : State} {a : Word} {v : Byte} :
    s.busRead a = .ok (v, t) ↔ s.bus.read a = .ok v ∧ t = s.afterRead a := by
  unfold State.busRead
  cases s.bus.read a with
  | ok w => simp [eq_comm]
  | error f => simp

theorem State.busRead_of_ok {s : State} {a : Word} {v : Byte} (h : s.bus.read a = .ok v) :
    s.busRead a = .ok (v, s.afterRead a) := State.busRead_ok.mpr ⟨h, rfl⟩

/-- A Bus read that fails raises the Bus's fault. -/
theorem State.busRead_error {s : State} {a : Word} {f : Fault} : s.busRead a = .error f ↔ s.bus.read a = .error f := by
  unfold State.busRead
  cases s.bus.read a <;> simp

/-- After a Bus read that succeeds, the rest runs on the byte and the machine after the read. -/
theorem memRead_bind_ok {s : State} {a : Word} {v : Byte} (h : s.bus.read a = .ok v) (k : Byte × State → Traced α) :
    (memRead s a).bind k = ⟨.read a :: (k (v, s.afterRead a)).events, (k (v, s.afterRead a)).result⟩ :=
  Traced.bind_of_ok (x := memRead s a) (State.busRead_of_ok h) k

/-- After a Bus read that fails, nothing more runs (R150). -/
theorem memRead_bind_error {s : State} {a : Word} {f : Fault} (h : s.bus.read a = .error f)
    (k : Byte × State → Traced α) : (memRead s a).bind k = ⟨[.read a], .error f⟩ :=
  Traced.bind_of_error (x := memRead s a) (State.busRead_error.mpr h) k

/-- What a Bus write that succeeds leaves: only the Bus changes. -/
theorem State.busWrite_ok {s t : State} {a : Word} {v : Byte} (h : s.busWrite a v = .ok t) :
    ∃ b, s.bus.write a v = .ok b ∧ t = { s with bus := b } := by
  unfold State.busWrite at h
  split at h
  · next b hb => cases h; exact ⟨b, hb, rfl⟩
  · cases h

end Sys2Proof.Machine
end

