-- ==== Sys2Proof/Laws/Operands.lean ====
section
/-! SUPPORT. What operand resolution answers, one lemma per operand kind, what it leaves, and which faults it can raise
(spec/40_step_and_operands.md R135 to R142, R153). -/
namespace Sys2Proof.Machine

variable (s : State) (ia : Word)

@[simp] theorem resolve_reg8 (r : Reg8) : resolve s (.reg (.byte r)) ia = .pure (Value.byte (s.get8 r), s) := rfl

@[simp] theorem resolve_reg16 (r : Reg16) : resolve s (.reg (.word r)) ia = .pure (Value.word (s.get16 r), s) := rfl

@[simp] theorem resolve_none : resolve s .none ia = .raise (.illegalInstruction ia) := rfl

@[simp] theorem expectByte_byte (b : Byte) : expectByte (.byte b) ia = .pure b := rfl
@[simp] theorem expectByte_word (w : Word) : expectByte (.word w) ia = .raise (.illegalInstruction ia) := rfl
@[simp] theorem expectWord_word (w : Word) : expectWord (.word w) ia = .pure w := rfl
@[simp] theorem expectWord_byte (b : Byte) : expectWord (.byte b) ia = .raise (.illegalInstruction ia) := rfl

@[simp] theorem expectByte_events (v : Value) : (expectByte v ia).events = [] := by cases v <;> rfl
@[simp] theorem expectWord_events (v : Value) : (expectWord v ia).events = [] := by cases v <;> rfl

/-- Resolving an operand only reads (R135). -/
theorem resolve_only_reads {o : Operand} {e : BusEvent} (h : e ∈ (resolve s o ia).events) : ∃ a, e = .read a := by
  have one : ∀ {α : Type} {u : State} {x : Word} {k : Byte × State → Traced α}, (∀ y, e ∈ (k y).events → ∃ a, e = .read a) →
      e ∈ ((memRead u x).bind k).events → ∃ a, e = .read a := fun hk h => by
    rcases Traced.mem_bind_events h with h | ⟨y, -, h⟩
    · exact ⟨_, List.mem_singleton.mp h⟩
    · exact hk y h
  cases o with
  | reg r => cases r <;> cases h
  | none => cases h
  | deref r => exact one (fun _ h => by cases h) h
  | immByte => exact one (fun _ h => by cases h) h
  | offsetImm => exact one (fun _ => one fun _ h => by cases h) h
  | immWord => exact one (fun _ => one fun _ h => by cases h) h

/-- The one access of finding a destination's address is the read of an offset byte (R153). -/
theorem resolveAddr_only_reads_the_offset {o : Operand} {e : BusEvent} (h : e ∈ (resolveAddr s o ia).events) :
    o = .offsetImm ∧ e = .read (immAddr ia 1) := by
  cases o with
  | offsetImm =>
    rcases Traced.mem_bind_events h with h | ⟨y, -, h⟩
    · exact ⟨rfl, List.mem_singleton.mp h⟩
    · cases h
  | _ => cases h

/-- A dereference that the Bus answers (R137). -/
theorem resolve_deref_ok {r : RegName} {b : Byte} (h : s.bus.read (s.pointer r) = .ok b) :
    resolve s (.deref r) ia = ⟨[.read (s.pointer r)], .ok (.byte b, s.afterRead (s.pointer r))⟩ :=
  memRead_bind_ok h _

/-- A dereference that the Bus does not answer. -/
theorem resolve_deref_error {r : RegName} {f : Fault} (h : s.bus.read (s.pointer r) = .error f) :
    resolve s (.deref r) ia = ⟨[.read (s.pointer r)], .error f⟩ :=
  memRead_bind_error h _

/-- An immediate byte (R138). -/
theorem resolve_immByte_ok {b : Byte} (h : s.bus.read (immAddr ia 1) = .ok b) :
    resolve s .immByte ia = ⟨[.read (immAddr ia 1)], .ok (.byte b, s.afterRead (immAddr ia 1))⟩ :=
  memRead_bind_ok h _

theorem resolve_immByte_error {f : Fault} (h : s.bus.read (immAddr ia 1) = .error f) :
    resolve s .immByte ia = ⟨[.read (immAddr ia 1)], .error f⟩ :=
  memRead_bind_error h _

/-- An offset immediate (R139). -/
theorem resolve_offsetImm_ok {n b : Byte} (h : s.bus.read (immAddr ia 1) = .ok n)
    (h' : (s.bus.afterRead (immAddr ia 1)).read (offsetAddr n) = .ok b) :
    resolve s .offsetImm ia = ⟨[.read (immAddr ia 1), .read (offsetAddr n)],
      .ok (.byte b, (s.afterRead (immAddr ia 1)).afterRead (offsetAddr n))⟩ := by
  simp only [resolve]
  rw [memRead_bind_ok h, memRead_bind_ok (s := s.afterRead (immAddr ia 1)) h']
  rfl

theorem resolve_offsetImm_error {f : Fault} (h : s.bus.read (immAddr ia 1) = .error f) :
    resolve s .offsetImm ia = ⟨[.read (immAddr ia 1)], .error f⟩ :=
  memRead_bind_error h _

theorem resolve_offsetImm_error' {n : Byte} {f : Fault} (h : s.bus.read (immAddr ia 1) = .ok n)
    (h' : (s.bus.afterRead (immAddr ia 1)).read (offsetAddr n) = .error f) :
    resolve s .offsetImm ia = ⟨[.read (immAddr ia 1), .read (offsetAddr n)], .error f⟩ := by
  simp only [resolve]
  rw [memRead_bind_ok h, memRead_bind_error (s := s.afterRead (immAddr ia 1)) h']

/-- An immediate word, big-endian (R140). -/
theorem resolve_immWord_ok {h l : Byte} (hh : s.bus.read (immAddr ia 1) = .ok h)
    (hl : (s.bus.afterRead (immAddr ia 1)).read (immAddr ia 2) = .ok l) :
    resolve s .immWord ia = ⟨[.read (immAddr ia 1), .read (immAddr ia 2)],
      .ok (.word (wordOf h l), (s.afterRead (immAddr ia 1)).afterRead (immAddr ia 2))⟩ := by
  simp only [resolve]
  rw [memRead_bind_ok hh, memRead_bind_ok (s := s.afterRead (immAddr ia 1)) hl]
  rfl

theorem resolve_immWord_error {f : Fault} (hh : s.bus.read (immAddr ia 1) = .error f) :
    resolve s .immWord ia = ⟨[.read (immAddr ia 1)], .error f⟩ :=
  memRead_bind_error hh _

theorem resolve_immWord_error' {h : Byte} {f : Fault} (hh : s.bus.read (immAddr ia 1) = .ok h)
    (hl : (s.bus.afterRead (immAddr ia 1)).read (immAddr ia 2) = .error f) :
    resolve s .immWord ia = ⟨[.read (immAddr ia 1), .read (immAddr ia 2)], .error f⟩ := by
  simp only [resolve]
  rw [memRead_bind_ok hh, memRead_bind_error (s := s.afterRead (immAddr ia 1)) hl]

/-- Everything a Bus read can do: answer a byte, or fault. -/
theorem Bus.read_total (b : Bus) (a : Word) : (∃ v, b.read a = .ok v) ∨ b.read a = .error (.outOfBounds a) := by
  cases h : b.read a with
  | ok v => exact .inl ⟨v, rfl⟩
  | error f => exact .inr (by rw [Bus.read_error h])

/-- Everything resolution can do: it reads some addresses in order; then it answers a value and the machine those reads
leave; or it faults, at the last of those addresses, which the Bus rejects, or with IllegalInstruction at the
instruction address (spec/60_exceptions.md R231, R232). -/
theorem resolve_total (o : Operand) :
    (∃ v as, resolve s o ia = ⟨as.map .read, .ok (v, s.afterReads as)⟩) ∨
    (∃ as a, (s.bus.afterReads as).read a = .error (.outOfBounds a) ∧
      resolve s o ia = ⟨as.map .read ++ [.read a], .error (.outOfBounds a)⟩) ∨
    resolve s o ia = ⟨[], .error (.illegalInstruction ia)⟩ := by
  cases o with
  | reg r => cases r <;> exact .inl ⟨_, [], rfl⟩
  | none => exact .inr (.inr rfl)
  | deref r =>
    rcases s.bus.read_total (s.pointer r) with ⟨v, h⟩ | h
    · exact .inl ⟨_, [s.pointer r], resolve_deref_ok s ia h⟩
    · exact .inr (.inl ⟨[], _, h, resolve_deref_error s ia h⟩)
  | immByte =>
    rcases s.bus.read_total (immAddr ia 1) with ⟨v, h⟩ | h
    · exact .inl ⟨_, [immAddr ia 1], resolve_immByte_ok s ia h⟩
    · exact .inr (.inl ⟨[], _, h, resolve_immByte_error s ia h⟩)
  | offsetImm =>
    rcases s.bus.read_total (immAddr ia 1) with ⟨n, h⟩ | h
    · rcases (s.bus.afterRead (immAddr ia 1)).read_total (offsetAddr n) with ⟨v, h'⟩ | h'
      · exact .inl ⟨_, [immAddr ia 1, offsetAddr n], resolve_offsetImm_ok s ia h h'⟩
      · exact .inr (.inl ⟨[immAddr ia 1], _, h', resolve_offsetImm_error' s ia h h'⟩)
    · exact .inr (.inl ⟨[], _, h, resolve_offsetImm_error s ia h⟩)
  | immWord =>
    rcases s.bus.read_total (immAddr ia 1) with ⟨x, h⟩ | h
    · rcases (s.bus.afterRead (immAddr ia 1)).read_total (immAddr ia 2) with ⟨y, h'⟩ | h'
      · exact .inl ⟨_, [immAddr ia 1, immAddr ia 2], resolve_immWord_ok s ia h h'⟩
      · exact .inr (.inl ⟨[immAddr ia 1], _, h', resolve_immWord_error' s ia h h'⟩)
    · exact .inr (.inl ⟨[], _, h, resolve_immWord_error s ia h⟩)

/-- What resolution leaves: only the Bus can differ, by the reads it made. -/
theorem resolve_leaves {o : Operand} {v : Value} {u : State} (h : (resolve s o ia).result = .ok (v, u)) :
    ∃ as, (resolve s o ia).events = as.map .read ∧ u = s.afterReads as := by
  rcases resolve_total s ia o with ⟨w, as, e⟩ | ⟨as, a, -, e⟩ | e <;> rw [e] at h ⊢
  · cases h; exact ⟨as, rfl, rfl⟩
  · cases h
  · cases h

/-- What resolving a destination address leaves: only the Bus can differ, by the reads it made (R153). -/
theorem resolveAddr_leaves {o : Operand} {a : Word} {u : State} (h : (resolveAddr s o ia).result = .ok (a, u)) :
    ∃ as, (resolveAddr s o ia).events = as.map .read ∧ u = s.afterReads as := by
  cases o with
  | deref r => cases h; exact ⟨[], rfl, rfl⟩
  | offsetImm =>
    rcases s.bus.read_total (immAddr ia 1) with ⟨n, e⟩ | e
    · have k : resolveAddr s .offsetImm ia = ⟨[.read (immAddr ia 1)], .ok (offsetAddr n, s.afterRead (immAddr ia 1))⟩ :=
        memRead_bind_ok e _
      rw [k] at h ⊢
      cases h
      exact ⟨[immAddr ia 1], rfl, rfl⟩
    · have k : resolveAddr s .offsetImm ia = ⟨[.read (immAddr ia 1)], .error (.outOfBounds (immAddr ia 1))⟩ :=
        memRead_bind_error e _
      rw [k] at h
      cases h
  | reg r => cases h
  | immByte => cases h
  | immWord => cases h
  | none => cases h

/-- Resolution raises OutOfBounds of some address, or IllegalInstruction of the instruction address, and nothing else
(spec/60_exceptions.md R231, R232). -/
theorem resolve_fault {o : Operand} {f : Fault} (h : (resolve s o ia).result = .error f) :
    (∃ a, f = .outOfBounds a) ∨ f = .illegalInstruction ia := by
  rcases resolve_total s ia o with ⟨w, as, e⟩ | ⟨as, a, -, e⟩ | e <;> rw [e] at h <;> cases h
  · exact .inl ⟨a, rfl⟩
  · exact .inr rfl

/-- The only values resolution answers with a word are a 16-bit register's and an immediate word. -/
theorem resolve_word {o : Operand} {w : Word} {u : State} (h : (resolve s o ia).result = .ok (.word w, u)) :
    (∃ r, o = .reg (.word r)) ∨ o = .immWord := by
  cases o with
  | reg r => cases r with
    | byte r => simp at h
    | word r => exact .inl ⟨r, rfl⟩
  | none => simp at h
  | deref r => simp [resolve, Traced.bind_result_ok] at h
  | immByte => simp [resolve, Traced.bind_result_ok] at h
  | offsetImm => simp [resolve, Traced.bind_result_ok] at h
  | immWord => exact .inr rfl

/-- The reads of an operand change no parameter, no RAM byte and not the kind of peripheral. -/
theorem Bus.afterReads_keeps (b : Bus) (as : List Word) :
    (b.afterReads as).ram = b.ram ∧ (b.afterReads as).per.start = b.per.start ∧
      (b.afterReads as).per.size = b.per.size ∧ (b.afterReads as).per.isVram = b.per.isVram := by
  induction as generalizing b with
  | nil => exact ⟨rfl, rfl, rfl, rfl⟩
  | cons a as ih => simpa [Bus.afterReads] using ih (b.afterRead a)

/-- With VRAM_DEFAULT reads change nothing. -/
theorem Bus.afterReads_vram {b : Bus} (h : b.per.isVram = true) (as : List Word) : b.afterReads as = b := by
  induction as with
  | nil => rfl
  | cons a as ih => simp only [Bus.afterReads, Bus.afterRead_vram h, ih]

/-- What reads leave at an address whose answer only a write can change. -/
theorem Bus.read_afterReads {b : Bus} {x : Word} (h : b.steady x = true) (as : List Word) :
    (b.afterReads as).read x = b.read x := by
  induction as generalizing b with
  | nil => rfl
  | cons a as ih => simp only [Bus.afterReads]; rw [ih (by simpa using h), Bus.read_afterRead h]

/-- Reads keep both devices well formed. -/
theorem Bus.wf_afterReads {b : Bus} (hr : b.ram.wf = true) (hp : b.per.wf = true) (as : List Word) :
    (b.afterReads as).ram.wf = true ∧ (b.afterReads as).per.wf = true := by
  induction as generalizing b with
  | nil => exact ⟨hr, hp⟩
  | cons a as ih => exact ih (Bus.wf_afterRead hr hp a).1 (Bus.wf_afterRead hr hp a).2

end Sys2Proof.Machine
end

