-- ==== Sys2Proof/Laws/Engine.lean ====
section
/-! SUPPORT. Everything the execution of a descriptor can do, said once: the inversion lemma of `runDescriptor`, from which
invariants and frames follow without unfolding it (spec/40_step_and_operands.md R147 to R155). -/
namespace Sys2Proof.Machine

/-- What `storeByte` can leave (spec/42_ld.md R175). -/
theorem storeByte_ok {s t : State} {dst : Operand} {v : Byte} {ia : Word}
    (h : (storeByte s dst v ia).result = .ok t) :
    (∃ r, dst = .reg (.byte r) ∧ t = s.set8 r v) ∨
      ∃ a as b, (resolveAddr s dst ia).result = .ok (a, s.afterReads as) ∧ (s.bus.afterReads as).write a v = .ok b ∧
        t = { s with bus := b } := by
  have mem : ∀ {o : Operand},
      ((resolveAddr s o ia).bind fun a => memWrite a.2 a.1 v).result = .ok t →
      ∃ a as b, (resolveAddr s o ia).result = .ok (a, s.afterReads as) ∧ (s.bus.afterReads as).write a v = .ok b ∧
        t = { s with bus := b } := by
    intro o ho
    obtain ⟨⟨a, u⟩, ha, hw⟩ := Traced.bind_result_ok.mp ho
    obtain ⟨as, -, rfl⟩ := resolveAddr_leaves s ia ha
    obtain ⟨b, hb, rfl⟩ := State.busWrite_ok hw
    exact ⟨a, as, b, ha, hb, rfl⟩
  cases dst with
  | reg r =>
    cases r with
    | byte r => cases h; exact .inl ⟨r, rfl, rfl⟩
    | word r => cases h
  | deref r => exact .inr (mem h)
  | immByte => exact .inr (mem h)
  | offsetImm => exact .inr (mem h)
  | immWord => exact .inr (mem h)
  | none => exact .inr (mem h)

/-- A store never reads its destination: its accesses are the read of an offset byte and the write of the byte stored
(spec/20_memory.md R89). -/
theorem storeByte_only_writes_its_destination {s : State} {dst : Operand} {v : Byte} {ia : Word} {e : BusEvent}
    (h : e ∈ (storeByte s dst v ia).events) :
    (dst = .offsetImm ∧ e = .read (immAddr ia 1)) ∨ ∃ a, e = .write a v := by
  have mem : e ∈ ((resolveAddr s dst ia).bind fun a => memWrite a.2 a.1 v).events →
      (dst = .offsetImm ∧ e = .read (immAddr ia 1)) ∨ ∃ a, e = .write a v := fun h => by
    rcases Traced.mem_bind_events h with h | ⟨a, -, h⟩
    · exact .inl (resolveAddr_only_reads_the_offset s ia h)
    · exact .inr ⟨_, List.mem_singleton.mp h⟩
  cases dst with
  | reg r => cases h
  | _ => exact mem h

/-- ADD writes no memory (spec/20_memory.md R89): each of its events is a read or the catch-up. -/
theorem runAdd_writes_no_memory {dst src : Operand} {w c : Nat} {s : State} {e : BusEvent}
    (h : e ∈ (runAdd dst src w c s).events) : (∃ a, e = .read a) ∨ ∃ t, e = .catchup t := by
  cases dst with
  | reg r =>
    cases r <;>
      (rcases Traced.mem_bind_events h with h | ⟨x, -, h⟩
       · exact .inl (resolve_only_reads s s.pc h)
       · rcases Traced.mem_bind_events h with h | ⟨b, -, h⟩
         · simp at h
         · exact .inr ⟨_, List.mem_singleton.mp h⟩)
  | _ => cases h

/-- What LD can do (R175): `as` are the addresses its source reads, `as'` those its destination reads. -/
theorem runLd_ok {dst src : Operand} {w c : Nat} {s t : State} (h : (runLd dst src w c s).result = .ok t) :
    ∃ v as, (resolve s src s.pc).result = .ok (.byte v, s.afterReads as) ∧
      ((∃ r, dst = .reg (.byte r) ∧ t = ((s.afterReads as).set8 r v).conclude w c) ∨
        ∃ a as' b, (resolveAddr (s.afterReads as) dst s.pc).result = .ok (a, (s.afterReads as).afterReads as') ∧
          ((s.bus.afterReads as).afterReads as').write a v = .ok b ∧
          t = ({ s with bus := b } : State).conclude w c) := by
  obtain ⟨⟨x, u⟩, hx, h1⟩ := Traced.bind_result_ok.mp h
  obtain ⟨v, hv, h2⟩ := Traced.bind_result_ok.mp h1
  obtain ⟨z, hz, h3⟩ := Traced.bind_result_ok.mp h2
  obtain ⟨as, -, rfl⟩ := resolve_leaves s s.pc hx
  cases x with
  | word y => cases hv
  | byte y =>
    obtain rfl : y = v := Except.ok.inj hv
    obtain rfl : z.conclude w c = t := Except.ok.inj h3
    refine ⟨y, as, hx, ?_⟩
    rcases storeByte_ok hz with ⟨r, rfl, rfl⟩ | ⟨a, as', b, ha, hb, rfl⟩
    · exact .inl ⟨r, rfl, rfl⟩
    · exact .inr ⟨a, as', b, ha, hb, rfl⟩

/-- What ADD can do (spec/43_add.md R200): `as` are the addresses its source reads. -/
theorem runAdd_ok {dst src : Operand} {w c : Nat} {s t : State} (h : (runAdd dst src w c s).result = .ok t) :
    (∃ r v as, dst = .reg (.byte r) ∧ (resolve s src s.pc).result = .ok (.byte v, s.afterReads as) ∧
        t = ((s.afterReads as).add8 r (s.get8 r) v).conclude w c) ∨
      ∃ r v as, dst = .reg (.word r) ∧ (resolve s src s.pc).result = .ok (.word v, s.afterReads as) ∧
        t = ((s.afterReads as).add16 r (s.get16 r) v).conclude w c := by
  cases dst with
  | reg r =>
    cases r with
    | byte r =>
      obtain ⟨⟨x, u⟩, hx, h1⟩ := Traced.bind_result_ok.mp h
      obtain ⟨v, hv, h2⟩ := Traced.bind_result_ok.mp h1
      obtain ⟨as, -, rfl⟩ := resolve_leaves s s.pc hx
      cases x with
      | word y => cases hv
      | byte y =>
        obtain rfl : y = v := Except.ok.inj hv
        exact .inl ⟨r, y, as, rfl, hx, (Except.ok.inj h2).symm⟩
    | word r =>
      obtain ⟨⟨x, u⟩, hx, h1⟩ := Traced.bind_result_ok.mp h
      obtain ⟨v, hv, h2⟩ := Traced.bind_result_ok.mp h1
      obtain ⟨as, -, rfl⟩ := resolve_leaves s s.pc hx
      cases x with
      | byte y => cases hv
      | word y =>
        obtain rfl : y = v := Except.ok.inj hv
        exact .inr ⟨r, y, as, rfl, hx, (Except.ok.inj h2).symm⟩
  | deref r => cases h
  | immByte => cases h
  | offsetImm => cases h
  | immWord => cases h
  | none => cases h

/-- Everything a descriptor's execution can do when it answers a next state. -/
theorem runDescriptor_ok {d : Descriptor} {s t : State} (h : (runDescriptor d s).result = .ok t) :
    (d.kind = .nop ∧ t = s.conclude d.width d.cycles) ∨
    (d.kind = .ld ∧ ∃ r v as, d.dst = .reg (.byte r) ∧ (resolve s d.src s.pc).result = .ok (.byte v, s.afterReads as) ∧
      t = ((s.afterReads as).set8 r v).conclude d.width d.cycles) ∨
    (d.kind = .ld ∧ ∃ v as a as' b, (resolve s d.src s.pc).result = .ok (.byte v, s.afterReads as) ∧
      (resolveAddr (s.afterReads as) d.dst s.pc).result = .ok (a, (s.afterReads as).afterReads as') ∧
      ((s.bus.afterReads as).afterReads as').write a v = .ok b ∧
      t = ({ s with bus := b } : State).conclude d.width d.cycles) ∨
    (d.kind = .add ∧ ∃ r v as, d.dst = .reg (.byte r) ∧ (resolve s d.src s.pc).result = .ok (.byte v, s.afterReads as) ∧
      t = ((s.afterReads as).add8 r (s.get8 r) v).conclude d.width d.cycles) ∨
    (d.kind = .add ∧ ∃ r v as, d.dst = .reg (.word r) ∧ (resolve s d.src s.pc).result = .ok (.word v, s.afterReads as) ∧
      t = ((s.afterReads as).add16 r (s.get16 r) v).conclude d.width d.cycles) := by
  unfold runDescriptor at h
  cases hk : d.kind with
  | nop => rw [hk] at h; cases h; exact .inl ⟨rfl, rfl⟩
  | invalid => rw [hk] at h; cases h
  | placeholder k => rw [hk] at h; cases h
  | ld =>
    rw [hk] at h
    obtain ⟨v, as, hv, ⟨r, hr, ht⟩ | ⟨a, as', b, ha, hb, ht⟩⟩ := runLd_ok h
    · exact .inr (.inl ⟨rfl, r, v, as, hr, hv, ht⟩)
    · exact .inr (.inr (.inl ⟨rfl, v, as, a, as', b, hv, ha, hb, ht⟩))
  | add =>
    rw [hk] at h
    rcases runAdd_ok h with ⟨r, v, as, hr, hv, ht⟩ | ⟨r, v, as, hr, hv, ht⟩
    · exact .inr (.inr (.inr (.inl ⟨rfl, r, v, as, hr, hv, ht⟩)))
    · exact .inr (.inr (.inr (.inr ⟨rfl, r, v, as, hr, hv, ht⟩)))

end Sys2Proof.Machine
end

