-- ==== Sys2Proof/Laws/PerInstr.lean ====
section
/-! SUPPORT. The family OpcodeAgreement: for every instruction, the decoder and the encoder agree on its opcode byte and
its descriptor is well formed; one lemma per constructor (spec/30_encoding.md R101, R107, R110). -/
namespace Sys2Proof.Laws.OpcodeAgreement

/-- The opcode byte decodes to the instruction, and its row of the table meets R110 (b) to (f). -/
def Statement (i : Instr) : Prop :=
  decodeOpcode (opcodeOf i) = i ∧ i.wf = true ∧ (Machine.descriptorOf i).wfDefault = true

theorem nop : Statement .nop := ⟨rfl, rfl, rfl⟩
theorem ld_bc_d16 : Statement .ld_bc_d16 := ⟨rfl, rfl, rfl⟩
theorem ld_mbc_a : Statement .ld_mbc_a := ⟨rfl, rfl, rfl⟩
theorem inc_bc : Statement .inc_bc := ⟨rfl, rfl, rfl⟩
theorem inc_b : Statement .inc_b := ⟨rfl, rfl, rfl⟩
theorem dec_b : Statement .dec_b := ⟨rfl, rfl, rfl⟩
theorem ld_b_d8 : Statement .ld_b_d8 := ⟨rfl, rfl, rfl⟩
theorem rlca : Statement .rlca := ⟨rfl, rfl, rfl⟩
theorem ld_ma16_sp : Statement .ld_ma16_sp := ⟨rfl, rfl, rfl⟩
theorem add_hl_bc : Statement .add_hl_bc := ⟨rfl, rfl, rfl⟩
theorem ld_a_mbc : Statement .ld_a_mbc := ⟨rfl, rfl, rfl⟩
theorem dec_bc : Statement .dec_bc := ⟨rfl, rfl, rfl⟩
theorem inc_c : Statement .inc_c := ⟨rfl, rfl, rfl⟩
theorem dec_c : Statement .dec_c := ⟨rfl, rfl, rfl⟩
theorem ld_c_d8 : Statement .ld_c_d8 := ⟨rfl, rfl, rfl⟩
theorem rrca : Statement .rrca := ⟨rfl, rfl, rfl⟩
theorem stop : Statement .stop := ⟨rfl, rfl, rfl⟩
theorem ld_de_d16 : Statement .ld_de_d16 := ⟨rfl, rfl, rfl⟩
theorem ld_mde_a : Statement .ld_mde_a := ⟨rfl, rfl, rfl⟩
theorem inc_de : Statement .inc_de := ⟨rfl, rfl, rfl⟩
theorem inc_d : Statement .inc_d := ⟨rfl, rfl, rfl⟩
theorem dec_d : Statement .dec_d := ⟨rfl, rfl, rfl⟩
theorem ld_d_d8 : Statement .ld_d_d8 := ⟨rfl, rfl, rfl⟩
theorem rla : Statement .rla := ⟨rfl, rfl, rfl⟩
theorem jr_r8 : Statement .jr_r8 := ⟨rfl, rfl, rfl⟩
theorem add_hl_de : Statement .add_hl_de := ⟨rfl, rfl, rfl⟩
theorem ld_a_mde : Statement .ld_a_mde := ⟨rfl, rfl, rfl⟩
theorem dec_de : Statement .dec_de := ⟨rfl, rfl, rfl⟩
theorem inc_e : Statement .inc_e := ⟨rfl, rfl, rfl⟩
theorem dec_e : Statement .dec_e := ⟨rfl, rfl, rfl⟩
theorem ld_e_d8 : Statement .ld_e_d8 := ⟨rfl, rfl, rfl⟩
theorem rra : Statement .rra := ⟨rfl, rfl, rfl⟩
theorem jr_nz_r8 : Statement .jr_nz_r8 := ⟨rfl, rfl, rfl⟩
theorem ld_hl_d16 : Statement .ld_hl_d16 := ⟨rfl, rfl, rfl⟩
theorem ld_mhli_a : Statement .ld_mhli_a := ⟨rfl, rfl, rfl⟩
theorem inc_hl : Statement .inc_hl := ⟨rfl, rfl, rfl⟩
theorem inc_h : Statement .inc_h := ⟨rfl, rfl, rfl⟩
theorem dec_h : Statement .dec_h := ⟨rfl, rfl, rfl⟩
theorem ld_h_d8 : Statement .ld_h_d8 := ⟨rfl, rfl, rfl⟩
theorem daa : Statement .daa := ⟨rfl, rfl, rfl⟩
theorem jr_z_r8 : Statement .jr_z_r8 := ⟨rfl, rfl, rfl⟩
theorem add_hl_hl : Statement .add_hl_hl := ⟨rfl, rfl, rfl⟩
theorem ld_a_mhli : Statement .ld_a_mhli := ⟨rfl, rfl, rfl⟩
theorem dec_hl : Statement .dec_hl := ⟨rfl, rfl, rfl⟩
theorem inc_l : Statement .inc_l := ⟨rfl, rfl, rfl⟩
theorem dec_l : Statement .dec_l := ⟨rfl, rfl, rfl⟩
theorem ld_l_d8 : Statement .ld_l_d8 := ⟨rfl, rfl, rfl⟩
theorem cpl : Statement .cpl := ⟨rfl, rfl, rfl⟩
theorem jr_nc_r8 : Statement .jr_nc_r8 := ⟨rfl, rfl, rfl⟩
theorem ld_sp_d16 : Statement .ld_sp_d16 := ⟨rfl, rfl, rfl⟩
theorem ld_mhld_a : Statement .ld_mhld_a := ⟨rfl, rfl, rfl⟩
theorem inc_sp : Statement .inc_sp := ⟨rfl, rfl, rfl⟩
theorem inc_mhl : Statement .inc_mhl := ⟨rfl, rfl, rfl⟩
theorem dec_mhl : Statement .dec_mhl := ⟨rfl, rfl, rfl⟩
theorem ld_mhl_d8 : Statement .ld_mhl_d8 := ⟨rfl, rfl, rfl⟩
theorem scf : Statement .scf := ⟨rfl, rfl, rfl⟩
theorem jr_c_r8 : Statement .jr_c_r8 := ⟨rfl, rfl, rfl⟩
theorem add_hl_sp : Statement .add_hl_sp := ⟨rfl, rfl, rfl⟩
theorem ld_a_mhld : Statement .ld_a_mhld := ⟨rfl, rfl, rfl⟩
theorem dec_sp : Statement .dec_sp := ⟨rfl, rfl, rfl⟩
theorem inc_a : Statement .inc_a := ⟨rfl, rfl, rfl⟩
theorem dec_a : Statement .dec_a := ⟨rfl, rfl, rfl⟩
theorem ld_a_d8 : Statement .ld_a_d8 := ⟨rfl, rfl, rfl⟩
theorem ccf : Statement .ccf := ⟨rfl, rfl, rfl⟩
theorem ld_b_b : Statement .ld_b_b := ⟨rfl, rfl, rfl⟩
theorem ld_b_c : Statement .ld_b_c := ⟨rfl, rfl, rfl⟩
theorem ld_b_d : Statement .ld_b_d := ⟨rfl, rfl, rfl⟩
theorem ld_b_e : Statement .ld_b_e := ⟨rfl, rfl, rfl⟩
theorem ld_b_h : Statement .ld_b_h := ⟨rfl, rfl, rfl⟩
theorem ld_b_l : Statement .ld_b_l := ⟨rfl, rfl, rfl⟩
theorem ld_b_mhl : Statement .ld_b_mhl := ⟨rfl, rfl, rfl⟩
theorem ld_b_a : Statement .ld_b_a := ⟨rfl, rfl, rfl⟩
theorem ld_c_b : Statement .ld_c_b := ⟨rfl, rfl, rfl⟩
theorem ld_c_c : Statement .ld_c_c := ⟨rfl, rfl, rfl⟩
theorem ld_c_d : Statement .ld_c_d := ⟨rfl, rfl, rfl⟩
theorem ld_c_e : Statement .ld_c_e := ⟨rfl, rfl, rfl⟩
theorem ld_c_h : Statement .ld_c_h := ⟨rfl, rfl, rfl⟩
theorem ld_c_l : Statement .ld_c_l := ⟨rfl, rfl, rfl⟩
theorem ld_c_mhl : Statement .ld_c_mhl := ⟨rfl, rfl, rfl⟩
theorem ld_c_a : Statement .ld_c_a := ⟨rfl, rfl, rfl⟩
theorem ld_d_b : Statement .ld_d_b := ⟨rfl, rfl, rfl⟩
theorem ld_d_c : Statement .ld_d_c := ⟨rfl, rfl, rfl⟩
theorem ld_d_d : Statement .ld_d_d := ⟨rfl, rfl, rfl⟩
theorem ld_d_e : Statement .ld_d_e := ⟨rfl, rfl, rfl⟩
theorem ld_d_h : Statement .ld_d_h := ⟨rfl, rfl, rfl⟩
theorem ld_d_l : Statement .ld_d_l := ⟨rfl, rfl, rfl⟩
theorem ld_d_mhl : Statement .ld_d_mhl := ⟨rfl, rfl, rfl⟩
theorem ld_d_a : Statement .ld_d_a := ⟨rfl, rfl, rfl⟩
theorem ld_e_b : Statement .ld_e_b := ⟨rfl, rfl, rfl⟩
theorem ld_e_c : Statement .ld_e_c := ⟨rfl, rfl, rfl⟩
theorem ld_e_d : Statement .ld_e_d := ⟨rfl, rfl, rfl⟩
theorem ld_e_e : Statement .ld_e_e := ⟨rfl, rfl, rfl⟩
theorem ld_e_h : Statement .ld_e_h := ⟨rfl, rfl, rfl⟩
theorem ld_e_l : Statement .ld_e_l := ⟨rfl, rfl, rfl⟩
theorem ld_e_mhl : Statement .ld_e_mhl := ⟨rfl, rfl, rfl⟩
theorem ld_e_a : Statement .ld_e_a := ⟨rfl, rfl, rfl⟩
theorem ld_h_b : Statement .ld_h_b := ⟨rfl, rfl, rfl⟩
theorem ld_h_c : Statement .ld_h_c := ⟨rfl, rfl, rfl⟩
theorem ld_h_d : Statement .ld_h_d := ⟨rfl, rfl, rfl⟩
theorem ld_h_e : Statement .ld_h_e := ⟨rfl, rfl, rfl⟩
theorem ld_h_h : Statement .ld_h_h := ⟨rfl, rfl, rfl⟩
theorem ld_h_l : Statement .ld_h_l := ⟨rfl, rfl, rfl⟩
theorem ld_h_mhl : Statement .ld_h_mhl := ⟨rfl, rfl, rfl⟩
theorem ld_h_a : Statement .ld_h_a := ⟨rfl, rfl, rfl⟩
theorem ld_l_b : Statement .ld_l_b := ⟨rfl, rfl, rfl⟩
theorem ld_l_c : Statement .ld_l_c := ⟨rfl, rfl, rfl⟩
theorem ld_l_d : Statement .ld_l_d := ⟨rfl, rfl, rfl⟩
theorem ld_l_e : Statement .ld_l_e := ⟨rfl, rfl, rfl⟩
theorem ld_l_h : Statement .ld_l_h := ⟨rfl, rfl, rfl⟩
theorem ld_l_l : Statement .ld_l_l := ⟨rfl, rfl, rfl⟩
theorem ld_l_mhl : Statement .ld_l_mhl := ⟨rfl, rfl, rfl⟩
theorem ld_l_a : Statement .ld_l_a := ⟨rfl, rfl, rfl⟩
theorem ld_mhl_b : Statement .ld_mhl_b := ⟨rfl, rfl, rfl⟩
theorem ld_mhl_c : Statement .ld_mhl_c := ⟨rfl, rfl, rfl⟩
theorem ld_mhl_d : Statement .ld_mhl_d := ⟨rfl, rfl, rfl⟩
theorem ld_mhl_e : Statement .ld_mhl_e := ⟨rfl, rfl, rfl⟩
theorem ld_mhl_h : Statement .ld_mhl_h := ⟨rfl, rfl, rfl⟩
theorem ld_mhl_l : Statement .ld_mhl_l := ⟨rfl, rfl, rfl⟩
theorem halt : Statement .halt := ⟨rfl, rfl, rfl⟩
theorem ld_mhl_a : Statement .ld_mhl_a := ⟨rfl, rfl, rfl⟩
theorem ld_a_b : Statement .ld_a_b := ⟨rfl, rfl, rfl⟩
theorem ld_a_c : Statement .ld_a_c := ⟨rfl, rfl, rfl⟩
theorem ld_a_d : Statement .ld_a_d := ⟨rfl, rfl, rfl⟩
theorem ld_a_e : Statement .ld_a_e := ⟨rfl, rfl, rfl⟩
theorem ld_a_h : Statement .ld_a_h := ⟨rfl, rfl, rfl⟩
theorem ld_a_l : Statement .ld_a_l := ⟨rfl, rfl, rfl⟩
theorem ld_a_mhl : Statement .ld_a_mhl := ⟨rfl, rfl, rfl⟩
theorem ld_a_a : Statement .ld_a_a := ⟨rfl, rfl, rfl⟩
theorem add_a_b : Statement .add_a_b := ⟨rfl, rfl, rfl⟩
theorem add_a_c : Statement .add_a_c := ⟨rfl, rfl, rfl⟩
theorem add_a_d : Statement .add_a_d := ⟨rfl, rfl, rfl⟩
theorem add_a_e : Statement .add_a_e := ⟨rfl, rfl, rfl⟩
theorem add_a_h : Statement .add_a_h := ⟨rfl, rfl, rfl⟩
theorem add_a_l : Statement .add_a_l := ⟨rfl, rfl, rfl⟩
theorem add_a_mhl : Statement .add_a_mhl := ⟨rfl, rfl, rfl⟩
theorem add_a_a : Statement .add_a_a := ⟨rfl, rfl, rfl⟩
theorem adc_a_b : Statement .adc_a_b := ⟨rfl, rfl, rfl⟩
theorem adc_a_c : Statement .adc_a_c := ⟨rfl, rfl, rfl⟩
theorem adc_a_d : Statement .adc_a_d := ⟨rfl, rfl, rfl⟩
theorem adc_a_e : Statement .adc_a_e := ⟨rfl, rfl, rfl⟩
theorem adc_a_h : Statement .adc_a_h := ⟨rfl, rfl, rfl⟩
theorem adc_a_l : Statement .adc_a_l := ⟨rfl, rfl, rfl⟩
theorem adc_a_mhl : Statement .adc_a_mhl := ⟨rfl, rfl, rfl⟩
theorem adc_a_a : Statement .adc_a_a := ⟨rfl, rfl, rfl⟩
theorem sub_b : Statement .sub_b := ⟨rfl, rfl, rfl⟩
theorem sub_c : Statement .sub_c := ⟨rfl, rfl, rfl⟩
theorem sub_d : Statement .sub_d := ⟨rfl, rfl, rfl⟩
theorem sub_e : Statement .sub_e := ⟨rfl, rfl, rfl⟩
theorem sub_h : Statement .sub_h := ⟨rfl, rfl, rfl⟩
theorem sub_l : Statement .sub_l := ⟨rfl, rfl, rfl⟩
theorem sub_mhl : Statement .sub_mhl := ⟨rfl, rfl, rfl⟩
theorem sub_a : Statement .sub_a := ⟨rfl, rfl, rfl⟩
theorem sbc_a_b : Statement .sbc_a_b := ⟨rfl, rfl, rfl⟩
theorem sbc_a_c : Statement .sbc_a_c := ⟨rfl, rfl, rfl⟩
theorem sbc_a_d : Statement .sbc_a_d := ⟨rfl, rfl, rfl⟩
theorem sbc_a_e : Statement .sbc_a_e := ⟨rfl, rfl, rfl⟩
theorem sbc_a_h : Statement .sbc_a_h := ⟨rfl, rfl, rfl⟩
theorem sbc_a_l : Statement .sbc_a_l := ⟨rfl, rfl, rfl⟩
theorem sbc_a_mhl : Statement .sbc_a_mhl := ⟨rfl, rfl, rfl⟩
theorem sbc_a_a : Statement .sbc_a_a := ⟨rfl, rfl, rfl⟩
theorem and_b : Statement .and_b := ⟨rfl, rfl, rfl⟩
theorem and_c : Statement .and_c := ⟨rfl, rfl, rfl⟩
theorem and_d : Statement .and_d := ⟨rfl, rfl, rfl⟩
theorem and_e : Statement .and_e := ⟨rfl, rfl, rfl⟩
theorem and_h : Statement .and_h := ⟨rfl, rfl, rfl⟩
theorem and_l : Statement .and_l := ⟨rfl, rfl, rfl⟩
theorem and_mhl : Statement .and_mhl := ⟨rfl, rfl, rfl⟩
theorem and_a : Statement .and_a := ⟨rfl, rfl, rfl⟩
theorem xor_b : Statement .xor_b := ⟨rfl, rfl, rfl⟩
theorem xor_c : Statement .xor_c := ⟨rfl, rfl, rfl⟩
theorem xor_d : Statement .xor_d := ⟨rfl, rfl, rfl⟩
theorem xor_e : Statement .xor_e := ⟨rfl, rfl, rfl⟩
theorem xor_h : Statement .xor_h := ⟨rfl, rfl, rfl⟩
theorem xor_l : Statement .xor_l := ⟨rfl, rfl, rfl⟩
theorem xor_mhl : Statement .xor_mhl := ⟨rfl, rfl, rfl⟩
theorem xor_a : Statement .xor_a := ⟨rfl, rfl, rfl⟩
theorem or_b : Statement .or_b := ⟨rfl, rfl, rfl⟩
theorem or_c : Statement .or_c := ⟨rfl, rfl, rfl⟩
theorem or_d : Statement .or_d := ⟨rfl, rfl, rfl⟩
theorem or_e : Statement .or_e := ⟨rfl, rfl, rfl⟩
theorem or_h : Statement .or_h := ⟨rfl, rfl, rfl⟩
theorem or_l : Statement .or_l := ⟨rfl, rfl, rfl⟩
theorem or_mhl : Statement .or_mhl := ⟨rfl, rfl, rfl⟩
theorem or_a : Statement .or_a := ⟨rfl, rfl, rfl⟩
theorem cp_b : Statement .cp_b := ⟨rfl, rfl, rfl⟩
theorem cp_c : Statement .cp_c := ⟨rfl, rfl, rfl⟩
theorem cp_d : Statement .cp_d := ⟨rfl, rfl, rfl⟩
theorem cp_e : Statement .cp_e := ⟨rfl, rfl, rfl⟩
theorem cp_h : Statement .cp_h := ⟨rfl, rfl, rfl⟩
theorem cp_l : Statement .cp_l := ⟨rfl, rfl, rfl⟩
theorem cp_mhl : Statement .cp_mhl := ⟨rfl, rfl, rfl⟩
theorem cp_a : Statement .cp_a := ⟨rfl, rfl, rfl⟩
theorem ret_nz : Statement .ret_nz := ⟨rfl, rfl, rfl⟩
theorem pop_bc : Statement .pop_bc := ⟨rfl, rfl, rfl⟩
theorem jp_nz_a16 : Statement .jp_nz_a16 := ⟨rfl, rfl, rfl⟩
theorem jp_a16 : Statement .jp_a16 := ⟨rfl, rfl, rfl⟩
theorem call_nz_a16 : Statement .call_nz_a16 := ⟨rfl, rfl, rfl⟩
theorem push_bc : Statement .push_bc := ⟨rfl, rfl, rfl⟩
theorem add_a_d8 : Statement .add_a_d8 := ⟨rfl, rfl, rfl⟩
theorem rst_00h : Statement .rst_00h := ⟨rfl, rfl, rfl⟩
theorem ret_z : Statement .ret_z := ⟨rfl, rfl, rfl⟩
theorem ret : Statement .ret := ⟨rfl, rfl, rfl⟩
theorem jp_z_a16 : Statement .jp_z_a16 := ⟨rfl, rfl, rfl⟩
theorem prefix_cb : Statement .prefix_cb := ⟨rfl, rfl, rfl⟩
theorem call_z_a16 : Statement .call_z_a16 := ⟨rfl, rfl, rfl⟩
theorem call_a16 : Statement .call_a16 := ⟨rfl, rfl, rfl⟩
theorem adc_a_d8 : Statement .adc_a_d8 := ⟨rfl, rfl, rfl⟩
theorem rst_08h : Statement .rst_08h := ⟨rfl, rfl, rfl⟩
theorem ret_nc : Statement .ret_nc := ⟨rfl, rfl, rfl⟩
theorem pop_de : Statement .pop_de := ⟨rfl, rfl, rfl⟩
theorem jp_nc_a16 : Statement .jp_nc_a16 := ⟨rfl, rfl, rfl⟩
theorem invalid_d3 : Statement .invalid_d3 := ⟨rfl, rfl, rfl⟩
theorem call_nc_a16 : Statement .call_nc_a16 := ⟨rfl, rfl, rfl⟩
theorem push_de : Statement .push_de := ⟨rfl, rfl, rfl⟩
theorem sub_d8 : Statement .sub_d8 := ⟨rfl, rfl, rfl⟩
theorem rst_10h : Statement .rst_10h := ⟨rfl, rfl, rfl⟩
theorem ret_c : Statement .ret_c := ⟨rfl, rfl, rfl⟩
theorem reti : Statement .reti := ⟨rfl, rfl, rfl⟩
theorem jp_c_a16 : Statement .jp_c_a16 := ⟨rfl, rfl, rfl⟩
theorem invalid_db : Statement .invalid_db := ⟨rfl, rfl, rfl⟩
theorem call_c_a16 : Statement .call_c_a16 := ⟨rfl, rfl, rfl⟩
theorem invalid_dd : Statement .invalid_dd := ⟨rfl, rfl, rfl⟩
theorem sbc_a_d8 : Statement .sbc_a_d8 := ⟨rfl, rfl, rfl⟩
theorem rst_18h : Statement .rst_18h := ⟨rfl, rfl, rfl⟩
theorem ldh_ma8_a : Statement .ldh_ma8_a := ⟨rfl, rfl, rfl⟩
theorem pop_hl : Statement .pop_hl := ⟨rfl, rfl, rfl⟩
theorem ld_mc_a : Statement .ld_mc_a := ⟨rfl, rfl, rfl⟩
theorem invalid_e3 : Statement .invalid_e3 := ⟨rfl, rfl, rfl⟩
theorem invalid_e4 : Statement .invalid_e4 := ⟨rfl, rfl, rfl⟩
theorem push_hl : Statement .push_hl := ⟨rfl, rfl, rfl⟩
theorem and_d8 : Statement .and_d8 := ⟨rfl, rfl, rfl⟩
theorem rst_20h : Statement .rst_20h := ⟨rfl, rfl, rfl⟩
theorem add_sp_e8 : Statement .add_sp_e8 := ⟨rfl, rfl, rfl⟩
theorem jp_mhl : Statement .jp_mhl := ⟨rfl, rfl, rfl⟩
theorem ld_ma16_a : Statement .ld_ma16_a := ⟨rfl, rfl, rfl⟩
theorem invalid_eb : Statement .invalid_eb := ⟨rfl, rfl, rfl⟩
theorem invalid_ec : Statement .invalid_ec := ⟨rfl, rfl, rfl⟩
theorem invalid_ed : Statement .invalid_ed := ⟨rfl, rfl, rfl⟩
theorem xor_d8 : Statement .xor_d8 := ⟨rfl, rfl, rfl⟩
theorem rst_28h : Statement .rst_28h := ⟨rfl, rfl, rfl⟩
theorem ldh_a_ma8 : Statement .ldh_a_ma8 := ⟨rfl, rfl, rfl⟩
theorem pop_af : Statement .pop_af := ⟨rfl, rfl, rfl⟩
theorem ld_a_mc : Statement .ld_a_mc := ⟨rfl, rfl, rfl⟩
theorem di : Statement .di := ⟨rfl, rfl, rfl⟩
theorem invalid_f4 : Statement .invalid_f4 := ⟨rfl, rfl, rfl⟩
theorem push_af : Statement .push_af := ⟨rfl, rfl, rfl⟩
theorem or_d8 : Statement .or_d8 := ⟨rfl, rfl, rfl⟩
theorem rst_30h : Statement .rst_30h := ⟨rfl, rfl, rfl⟩
theorem ld_hl_sp_e8 : Statement .ld_hl_sp_e8 := ⟨rfl, rfl, rfl⟩
theorem ld_sp_hl : Statement .ld_sp_hl := ⟨rfl, rfl, rfl⟩
theorem ld_a_ma16 : Statement .ld_a_ma16 := ⟨rfl, rfl, rfl⟩
theorem ei : Statement .ei := ⟨rfl, rfl, rfl⟩
theorem invalid_fc : Statement .invalid_fc := ⟨rfl, rfl, rfl⟩
theorem invalid_fd : Statement .invalid_fd := ⟨rfl, rfl, rfl⟩
theorem cp_d8 : Statement .cp_d8 := ⟨rfl, rfl, rfl⟩
theorem rst_38h : Statement .rst_38h := ⟨rfl, rfl, rfl⟩

end Sys2Proof.Laws.OpcodeAgreement
end

