-- ==== Sys2Proof/Laws/Step.lean ====
section
/-! SUPPORT. The dispatch follows the table, and what a step can do (spec/40_step_and_operands.md R144 to R155). -/
namespace Sys2Proof.Machine

/-- Each instruction's meaning is the execution of its row of the table (R112, R147). -/
theorem exec_eq_runDescriptor (i : Instr) (s : State) : exec i s = deliver (runDescriptor (descriptorOf i) s) := by
  cases i <;> rfl

/-- A step whose opcode byte the Bus answers executes the instruction it selects, on the machine the fetch leaves. -/
theorem step_of_read {s : State} {op : Byte} (h : s.bus.read s.pc = .ok op) : step s = exec (decodeOpcode op) (s.afterRead s.pc) := by
  unfold step fetch
  rw [memRead_bind_ok h]
  rfl

/-- A step whose opcode byte the Bus does not answer faults with the Bus's fault (R144). -/
theorem step_of_read_error {s : State} {f : Fault} (h : s.bus.read s.pc = .error f) : step s = .fault f := by
  unfold step fetch
  rw [memRead_bind_error h]

/-- What a step that answers a next state has done: it fetched an opcode byte, and the selected instruction's
descriptor executed. -/
theorem step_next {s t : State} (h : step s = .next t) :
    ∃ op, s.bus.read s.pc = .ok op ∧
      (runDescriptor (descriptorOf (decodeOpcode op)) (s.afterRead s.pc)).result = .ok t := by
  cases hr : s.bus.read s.pc with
  | error f => rw [step_of_read_error hr] at h; cases h
  | ok op =>
    rw [step_of_read hr, exec_eq_runDescriptor, deliver_next] at h
    exact ⟨op, rfl, h⟩

/-- A step never refuses. -/
theorem step_not_refused (s : State) (r : Refusal) : step s ≠ .refused r := by
  cases hr : s.bus.read s.pc with
  | error f => rw [step_of_read_error hr]; simp
  | ok op =>
    rw [step_of_read hr, exec_eq_runDescriptor]
    unfold deliver
    split <;> simp

end Sys2Proof.Machine
end

