-- ==== Sys2Proof/Tests/Slice0.lean ====
section
/-! SUPPORT. The model's own tests. Every expected value is taken from spec/ (the vectors V-… and S… of
spec/95_test_vectors.md, the encodings of spec/30_encoding.md R112, the conditions of R110) or computed by hand from the
rules named; and one witness for the hypotheses of every statement that has some. -/
namespace Sys2Proof.Tests

open Sys2Proof.Machine Sys2Proof.Terms

/-! ### Helpers -/

/-- The state with an instruction's bytes placed at PC. -/
def withCode (s : State) (bytes : List Byte) : State := s.placeCode 0 bytes

/-- The answer is a next state with the property. -/
def gives (o : Outcome) (p : State → Bool) : Bool :=
  match o with
  | .next t => p t
  | .fault _ => false
  | .refused _ => false

/-- The answer is this fault. -/
def faultsWith (o : Outcome) (f : Fault) : Bool :=
  match o with
  | .next _ => false
  | .fault g => g == f
  | .refused _ => false

/-- The answer is this refusal. -/
def refusesWith (o : Outcome) (r : Refusal) : Bool :=
  match o with
  | .next _ => false
  | .fault _ => false
  | .refused q => q == r

/-- What the Bus answers at an address, if it does. -/
def reads (b : Bus) (a : Word) : Option Byte :=
  match b.read a with
  | .ok v => some v
  | .error _ => none

/-- The accesses of a step that stops with this fault, in order. -/
def stopsAfter (s : State) (f : Fault) (events : List BusEvent) : Bool :=
  faultsWith (step s) f && (stepTrace s).events == events

/-- The bytes decode to the instruction, with every byte after the first an operand. -/
def decodesTo (bytes : List Byte) (i : Instr) : Bool :=
  match decode bytes with
  | .ok (c, rest) => c.instr == i && c.operands == bytes.tail && rest == []
  | .error _ => false

/-- Every word of the list decodes to its instruction. -/
def decodesAll (l : List (List Byte × Instr)) : Bool := l.all fun p => decodesTo p.1 p.2

/-- The reset machine with other device ranges, PC at the start of RAM. -/
def mapped (ramStart : Word) (ramSize : Nat) (perStart : Word) (perSize : Nat) : State :=
  { State.reset with bus := ⟨⟨ramStart, ramSize, []⟩, ⟨perStart, perSize, .vram []⟩⟩, pc := ramStart }

/-- RAM over 0xE000 to 0xFFFF (program P5). -/
def highRam : State := mapped 0xE000#16 0x2000 0x8000#16 0x2000

/-- RAM over 0x0000 to 0x1FFF (the example of R186). -/
def lowRam : State := mapped 0x0000#16 0x2000 0x8000#16 0x2000

/-- The reset machine with a peripheral the CORE knows nothing of. -/
def withDevice : State :=
  { State.reset with bus := { State.reset.bus with per := ⟨0x8000#16, 0x2000, .device 7⟩ } }

/-! ### Well-formedness refuses each ill-formed term -/

theorem test_width_0_and_4_refused :
    (Descriptor.widthOk ⟨.nop, .none, .none, 0, 4⟩ || Descriptor.widthOk ⟨.nop, .none, .none, 4, 4⟩) = false := by decide

theorem test_add_to_F_AF_PC_refused :
    ([RegName.byte .f, .word .af, .word .pc].any fun r => Descriptor.addDstOk ⟨.add, .reg r, .immByte, 2, 8⟩) = false := by
  decide

theorem test_deref_pc_refused :
    (Descriptor.noDerefPc ⟨.ld, .reg (.byte .a), .deref (.word .pc), 1, 8⟩ ||
      Descriptor.noDerefPc ⟨.ld, .deref (.word .pc), .immByte, 2, 8⟩ ||
      Descriptor.noDerefPc ⟨.nop, .none, .deref (.word .pc), 1, 4⟩) = false := by decide

theorem test_descriptor_refused_by_each_check :
    (Descriptor.wf ⟨.nop, .none, .none, 4, 4⟩ || Descriptor.wf ⟨.add, .reg (.word .af), .reg (.word .bc), 1, 8⟩ ||
      Descriptor.wf ⟨.ld, .reg (.byte .a), .deref (.word .pc), 1, 8⟩) = false := by decide

theorem test_nop_with_operand_refused :
    (Descriptor.nopPlain ⟨.nop, .none, .none, 2, 4⟩ || Descriptor.nopPlain ⟨.nop, .reg (.byte .a), .none, 1, 4⟩ ||
      Descriptor.nopPlain ⟨.nop, .none, .immByte, 1, 4⟩) = false := by decide

theorem test_width_that_miscounts_refused :
    (Descriptor.widthCounts ⟨.ld, .reg (.byte .a), .immByte, 1, 8⟩ ||
      Descriptor.widthCounts ⟨.ld, .offsetImm, .immByte, 3, 12⟩) = false := by decide

theorem test_absent_operand_or_pc_or_f_refused :
    (Descriptor.operandsPlain ⟨.ld, .reg (.byte .a), .none, 1, 8⟩ ||
      Descriptor.operandsPlain ⟨.add, .none, .immByte, 2, 8⟩ ||
      Descriptor.operandsPlain ⟨.ld, .reg (.byte .f), .immByte, 2, 8⟩ ||
      Descriptor.operandsPlain ⟨.ld, .reg (.byte .a), .deref (.word .pc), 1, 8⟩) = false := by decide

theorem test_code_with_wrong_operand_count_refused :
    (Code.wf ⟨.nop, [0x12#8]⟩ || Code.wf ⟨.ld_a_d8, []⟩ || Code.wf ⟨.ld_bc_d16, [0x12#8]⟩) = false := by decide

theorem test_parameters_refused :
    ([{ Params.default with freqHz := 0 }, { Params.default with ramSize := 0 },
      { Params.default with ramSize := 0x4001 }, { Params.default with perStart := 0xF000#16 },
      { Params.default with flagBits := ⟨7, 7, 5, 4⟩ }].all fun p =>
        refusesWith (construct p Init.default) .parametersRefused) = true := by decide

theorem test_contents_out_of_form_refused :
    ([[(0xC000, 0#8)], [(0xC001, 1#8), (0xC000, 1#8)], [(0xBFFF, 1#8)], [(0xE000, 1#8)]].all fun m =>
      refusesWith (construct Params.default { Init.default with ram := m }) .parametersRefused) = true := by decide

/-- U6: a table with an excluded entry is refused where the entry is met. -/
theorem test_excluded_entry_refused :
    refusesWith (stepWith (fun _ => ⟨.add, .reg (.byte .f), .reg (.byte .a), 1, 4⟩) State.reset) .tableRefused = true := by
  decide

/-! ### Decoding: every opcode of R112, with operand bytes 0x12 and 0x34 where its format has them -/

theorem test_decode_00_to_0F : decodesAll
  [([0x00#8], .nop), ([0x01#8, 0x12#8, 0x34#8], .ld_bc_d16), ([0x02#8], .ld_mbc_a), ([0x03#8], .inc_bc),
    ([0x04#8], .inc_b), ([0x05#8], .dec_b), ([0x06#8, 0x12#8], .ld_b_d8), ([0x07#8], .rlca),
    ([0x08#8, 0x12#8, 0x34#8], .ld_ma16_sp), ([0x09#8], .add_hl_bc), ([0x0A#8], .ld_a_mbc), ([0x0B#8], .dec_bc),
    ([0x0C#8], .inc_c), ([0x0D#8], .dec_c), ([0x0E#8, 0x12#8], .ld_c_d8), ([0x0F#8], .rrca)] = true := by decide

theorem test_decode_10_to_1F : decodesAll
  [([0x10#8, 0x12#8], .stop), ([0x11#8, 0x12#8, 0x34#8], .ld_de_d16), ([0x12#8], .ld_mde_a), ([0x13#8], .inc_de),
    ([0x14#8], .inc_d), ([0x15#8], .dec_d), ([0x16#8, 0x12#8], .ld_d_d8), ([0x17#8], .rla),
    ([0x18#8, 0x12#8], .jr_r8), ([0x19#8], .add_hl_de), ([0x1A#8], .ld_a_mde), ([0x1B#8], .dec_de),
    ([0x1C#8], .inc_e), ([0x1D#8], .dec_e), ([0x1E#8, 0x12#8], .ld_e_d8), ([0x1F#8], .rra)] = true := by decide

theorem test_decode_20_to_2F : decodesAll
  [([0x20#8, 0x12#8], .jr_nz_r8), ([0x21#8, 0x12#8, 0x34#8], .ld_hl_d16), ([0x22#8], .ld_mhli_a),
    ([0x23#8], .inc_hl), ([0x24#8], .inc_h), ([0x25#8], .dec_h), ([0x26#8, 0x12#8], .ld_h_d8), ([0x27#8], .daa),
    ([0x28#8, 0x12#8], .jr_z_r8), ([0x29#8], .add_hl_hl), ([0x2A#8], .ld_a_mhli), ([0x2B#8], .dec_hl),
    ([0x2C#8], .inc_l), ([0x2D#8], .dec_l), ([0x2E#8, 0x12#8], .ld_l_d8), ([0x2F#8], .cpl)] = true := by decide

theorem test_decode_30_to_3F : decodesAll
  [([0x30#8, 0x12#8], .jr_nc_r8), ([0x31#8, 0x12#8, 0x34#8], .ld_sp_d16), ([0x32#8], .ld_mhld_a),
    ([0x33#8], .inc_sp), ([0x34#8], .inc_mhl), ([0x35#8], .dec_mhl), ([0x36#8, 0x12#8], .ld_mhl_d8), ([0x37#8], .scf),
    ([0x38#8, 0x12#8], .jr_c_r8), ([0x39#8], .add_hl_sp), ([0x3A#8], .ld_a_mhld), ([0x3B#8], .dec_sp),
    ([0x3C#8], .inc_a), ([0x3D#8], .dec_a), ([0x3E#8, 0x12#8], .ld_a_d8), ([0x3F#8], .ccf)] = true := by decide

theorem test_decode_40_to_4F : decodesAll
  [([0x40#8], .ld_b_b), ([0x41#8], .ld_b_c), ([0x42#8], .ld_b_d), ([0x43#8], .ld_b_e), ([0x44#8], .ld_b_h),
    ([0x45#8], .ld_b_l), ([0x46#8], .ld_b_mhl), ([0x47#8], .ld_b_a), ([0x48#8], .ld_c_b), ([0x49#8], .ld_c_c),
    ([0x4A#8], .ld_c_d), ([0x4B#8], .ld_c_e), ([0x4C#8], .ld_c_h), ([0x4D#8], .ld_c_l), ([0x4E#8], .ld_c_mhl),
    ([0x4F#8], .ld_c_a)] = true := by decide

theorem test_decode_50_to_5F : decodesAll
  [([0x50#8], .ld_d_b), ([0x51#8], .ld_d_c), ([0x52#8], .ld_d_d), ([0x53#8], .ld_d_e), ([0x54#8], .ld_d_h),
    ([0x55#8], .ld_d_l), ([0x56#8], .ld_d_mhl), ([0x57#8], .ld_d_a), ([0x58#8], .ld_e_b), ([0x59#8], .ld_e_c),
    ([0x5A#8], .ld_e_d), ([0x5B#8], .ld_e_e), ([0x5C#8], .ld_e_h), ([0x5D#8], .ld_e_l), ([0x5E#8], .ld_e_mhl),
    ([0x5F#8], .ld_e_a)] = true := by decide

theorem test_decode_60_to_6F : decodesAll
  [([0x60#8], .ld_h_b), ([0x61#8], .ld_h_c), ([0x62#8], .ld_h_d), ([0x63#8], .ld_h_e), ([0x64#8], .ld_h_h),
    ([0x65#8], .ld_h_l), ([0x66#8], .ld_h_mhl), ([0x67#8], .ld_h_a), ([0x68#8], .ld_l_b), ([0x69#8], .ld_l_c),
    ([0x6A#8], .ld_l_d), ([0x6B#8], .ld_l_e), ([0x6C#8], .ld_l_h), ([0x6D#8], .ld_l_l), ([0x6E#8], .ld_l_mhl),
    ([0x6F#8], .ld_l_a)] = true := by decide

theorem test_decode_70_to_7F : decodesAll
  [([0x70#8], .ld_mhl_b), ([0x71#8], .ld_mhl_c), ([0x72#8], .ld_mhl_d), ([0x73#8], .ld_mhl_e), ([0x74#8], .ld_mhl_h),
    ([0x75#8], .ld_mhl_l), ([0x76#8], .halt), ([0x77#8], .ld_mhl_a), ([0x78#8], .ld_a_b), ([0x79#8], .ld_a_c),
    ([0x7A#8], .ld_a_d), ([0x7B#8], .ld_a_e), ([0x7C#8], .ld_a_h), ([0x7D#8], .ld_a_l), ([0x7E#8], .ld_a_mhl),
    ([0x7F#8], .ld_a_a)] = true := by decide

theorem test_decode_80_to_8F : decodesAll
  [([0x80#8], .add_a_b), ([0x81#8], .add_a_c), ([0x82#8], .add_a_d), ([0x83#8], .add_a_e), ([0x84#8], .add_a_h),
    ([0x85#8], .add_a_l), ([0x86#8], .add_a_mhl), ([0x87#8], .add_a_a), ([0x88#8], .adc_a_b), ([0x89#8], .adc_a_c),
    ([0x8A#8], .adc_a_d), ([0x8B#8], .adc_a_e), ([0x8C#8], .adc_a_h), ([0x8D#8], .adc_a_l), ([0x8E#8], .adc_a_mhl),
    ([0x8F#8], .adc_a_a)] = true := by decide

theorem test_decode_90_to_9F : decodesAll
  [([0x90#8], .sub_b), ([0x91#8], .sub_c), ([0x92#8], .sub_d), ([0x93#8], .sub_e), ([0x94#8], .sub_h),
    ([0x95#8], .sub_l), ([0x96#8], .sub_mhl), ([0x97#8], .sub_a), ([0x98#8], .sbc_a_b), ([0x99#8], .sbc_a_c),
    ([0x9A#8], .sbc_a_d), ([0x9B#8], .sbc_a_e), ([0x9C#8], .sbc_a_h), ([0x9D#8], .sbc_a_l), ([0x9E#8], .sbc_a_mhl),
    ([0x9F#8], .sbc_a_a)] = true := by decide

theorem test_decode_A0_to_AF : decodesAll
  [([0xA0#8], .and_b), ([0xA1#8], .and_c), ([0xA2#8], .and_d), ([0xA3#8], .and_e), ([0xA4#8], .and_h),
    ([0xA5#8], .and_l), ([0xA6#8], .and_mhl), ([0xA7#8], .and_a), ([0xA8#8], .xor_b), ([0xA9#8], .xor_c),
    ([0xAA#8], .xor_d), ([0xAB#8], .xor_e), ([0xAC#8], .xor_h), ([0xAD#8], .xor_l), ([0xAE#8], .xor_mhl),
    ([0xAF#8], .xor_a)] = true := by decide

theorem test_decode_B0_to_BF : decodesAll
  [([0xB0#8], .or_b), ([0xB1#8], .or_c), ([0xB2#8], .or_d), ([0xB3#8], .or_e), ([0xB4#8], .or_h), ([0xB5#8], .or_l),
    ([0xB6#8], .or_mhl), ([0xB7#8], .or_a), ([0xB8#8], .cp_b), ([0xB9#8], .cp_c), ([0xBA#8], .cp_d),
    ([0xBB#8], .cp_e), ([0xBC#8], .cp_h), ([0xBD#8], .cp_l), ([0xBE#8], .cp_mhl), ([0xBF#8], .cp_a)] = true := by decide

theorem test_decode_C0_to_CF : decodesAll
  [([0xC0#8], .ret_nz), ([0xC1#8], .pop_bc), ([0xC2#8, 0x12#8, 0x34#8], .jp_nz_a16),
    ([0xC3#8, 0x12#8, 0x34#8], .jp_a16), ([0xC4#8, 0x12#8, 0x34#8], .call_nz_a16), ([0xC5#8], .push_bc),
    ([0xC6#8, 0x12#8], .add_a_d8), ([0xC7#8], .rst_00h), ([0xC8#8], .ret_z), ([0xC9#8], .ret),
    ([0xCA#8, 0x12#8, 0x34#8], .jp_z_a16), ([0xCB#8], .prefix_cb), ([0xCC#8, 0x12#8, 0x34#8], .call_z_a16),
    ([0xCD#8, 0x12#8, 0x34#8], .call_a16), ([0xCE#8, 0x12#8], .adc_a_d8), ([0xCF#8], .rst_08h)] = true := by decide

theorem test_decode_D0_to_DF : decodesAll
  [([0xD0#8], .ret_nc), ([0xD1#8], .pop_de), ([0xD2#8, 0x12#8, 0x34#8], .jp_nc_a16), ([0xD3#8], .invalid_d3),
    ([0xD4#8, 0x12#8, 0x34#8], .call_nc_a16), ([0xD5#8], .push_de), ([0xD6#8, 0x12#8], .sub_d8), ([0xD7#8], .rst_10h),
    ([0xD8#8], .ret_c), ([0xD9#8], .reti), ([0xDA#8, 0x12#8, 0x34#8], .jp_c_a16), ([0xDB#8], .invalid_db),
    ([0xDC#8, 0x12#8, 0x34#8], .call_c_a16), ([0xDD#8], .invalid_dd), ([0xDE#8, 0x12#8], .sbc_a_d8),
    ([0xDF#8], .rst_18h)] = true := by decide

theorem test_decode_E0_to_EF : decodesAll
  [([0xE0#8, 0x12#8], .ldh_ma8_a), ([0xE1#8], .pop_hl), ([0xE2#8], .ld_mc_a), ([0xE3#8], .invalid_e3),
    ([0xE4#8], .invalid_e4), ([0xE5#8], .push_hl), ([0xE6#8, 0x12#8], .and_d8), ([0xE7#8], .rst_20h),
    ([0xE8#8, 0x12#8], .add_sp_e8), ([0xE9#8], .jp_mhl), ([0xEA#8, 0x12#8, 0x34#8], .ld_ma16_a),
    ([0xEB#8], .invalid_eb), ([0xEC#8], .invalid_ec), ([0xED#8], .invalid_ed), ([0xEE#8, 0x12#8], .xor_d8),
    ([0xEF#8], .rst_28h)] = true := by decide

theorem test_decode_F0_to_FF : decodesAll
  [([0xF0#8, 0x12#8], .ldh_a_ma8), ([0xF1#8], .pop_af), ([0xF2#8], .ld_a_mc), ([0xF3#8], .di),
    ([0xF4#8], .invalid_f4), ([0xF5#8], .push_af), ([0xF6#8, 0x12#8], .or_d8), ([0xF7#8], .rst_30h),
    ([0xF8#8, 0x12#8], .ld_hl_sp_e8), ([0xF9#8], .ld_sp_hl), ([0xFA#8, 0x12#8, 0x34#8], .ld_a_ma16), ([0xFB#8], .ei),
    ([0xFC#8], .invalid_fc), ([0xFD#8], .invalid_fd), ([0xFE#8, 0x12#8], .cp_d8), ([0xFF#8], .rst_38h)] = true := by decide

/-- The field encodings of R176, R177, R178, R179, R204, R207, bit by bit. -/
theorem test_decode_fields : decodesAll
    [([0b01000001#8], .ld_b_c), ([0b01111000#8], .ld_a_b), ([0b01100101#8], .ld_h_l), ([0b01011010#8], .ld_e_d),
      ([0b01111110#8], .ld_a_mhl), ([0b01000110#8], .ld_b_mhl), ([0b01110111#8], .ld_mhl_a), ([0b01110000#8], .ld_mhl_b),
      ([0b00111110#8, 0#8], .ld_a_d8), ([0b00000110#8, 0#8], .ld_b_d8), ([0b10000000#8], .add_a_b),
      ([0b10000111#8], .add_a_a), ([0b00001001#8], .add_hl_bc), ([0b00111001#8], .add_hl_sp)] = true := by decide

theorem test_decode_missing_operands :
    decode [] = .error .noOpcode ∧ decode [0x3E#8] = .error (.missingOperand .ld_a_d8) ∧
      decode [0x01#8, 0x12#8] = .error (.missingOperand .ld_bc_d16) := ⟨rfl, rfl, rfl⟩

theorem test_encode_is_big_endian : encode ⟨.ld_bc_d16, [0x12#8, 0x34#8]⟩ = [0x01#8, 0x12#8, 0x34#8] := by decide

/-- Bit 0 of a table word is bit 0 of the first byte; bytes above its bits are 0. -/
theorem test_table_words :
    (decodeTableWord 8 0x78 == some .ld_a_b && decodeTableWord 16 0x553E == some .ld_a_d8 &&
      decodeTableWord 24 0x341201 == some .ld_bc_d16 && decodeTableWord 8 0x01 == some .ld_bc_d16 &&
      decodeTableWord 8 0xD3 == some .invalid_d3) = true := by decide

theorem test_fetch_word_runs_first :
    gives (step (State.reset.withFetchWord 16 0x553E)) (fun t => t.get8 .a == 0x55#8) = true := by decide

/-- A launch whose PC is at no memory still runs the placed instruction. -/
theorem test_fetch_word_moves_pc_to_ram :
    gives (step (State.withFetchWord { State.reset with pc := 0xA000#16 } 8 0x78)) (fun t => t.pc == 0xC001#16) = true := by
  decide

/-! ### Words and registers -/

theorem test_word_halves : (setLow (setHigh 0#16 0x12#8) 0x34#8 == 0x1234#16 && setHigh 0xFFFF#16 0#8 == 0x00FF#16 &&
    setLow 0xFFFF#16 0#8 == 0xFF00#16 && setLow (setHigh 0xA55A#16 0x5A#8) 0xA5#8 == 0x5AA5#16) = true := by decide

theorem test_word_bits : (setBit 0#16 7 == 0x0080#16 && testBit (setBit 0#16 7) 7 && unsetBit 0x00FF#16 4 == 0x00EF#16) = true :=
  by decide

/-- V-G1, V-G2, V-G3, V-G5. -/
theorem test_register_views :
    (((State.reset.set8 .b 0x12#8).set8 .c 0x34#8).get16 .bc == 0x1234#16 &&
      (State.reset.set16 .hl 0xABCD#16).get8 .h == 0xAB#8 && (State.reset.set16 .hl 0xABCD#16).get8 .l == 0xCD#8 &&
      ((State.reset.set16 .bc 0x1111#16).set16 .de 0xBEEF#16).bc == 0x1111#16 &&
      (State.reset.set8 .f 0xFF#8).af == 0x00FF#16) = true := by decide

/-- V-G6 to V-G9. -/
theorem test_register_widths :
    State.reset.getByte (.word .hl) = .error (.badRegisterAccess (.word .hl) .byte) ∧
      State.reset.getWord (.byte .a) = .error (.badRegisterAccess (.byte .a) .word) ∧
      State.reset.setByte (.word .sp) 1#8 = .error (.badRegisterAccess (.word .sp) .byte) ∧
      State.reset.setWord (.byte .l) 1#16 = .error (.badRegisterAccess (.byte .l) .word) := ⟨rfl, rfl, rfl, rfl⟩

/-! ### Memory and the Bus -/

/-- S1, V-B3, V-B4, V-B5: the byte at each edge of each range, and one past it. -/
theorem test_edges :
    ([0x7FFF#16, 0xA000#16, 0xBFFF#16, 0xE000#16, 0xFFFF#16, 0x0000#16].all fun a =>
        reads State.reset.bus a == none && !(State.reset.bus.plain a)) = true ∧
      ([0x8000#16, 0x9FFF#16, 0xC000#16, 0xDFFF#16].all fun a =>
        gives (memWrite State.reset a 3#8 |> deliver) (fun t => reads t.bus a == some 3#8)) = true := by decide

/-- V-B2: the overlap is RAM's, and the peripheral keeps its own bytes. -/
theorem test_overlap :
    (let s := mapped 0x9000#16 0x2000 0x8000#16 0x2000
     gives (memWrite s 0x9000#16 7#8 |> deliver) (fun t =>
       t.bus.ram.cells == [(0x9000, 7#8)] && t.bus.per == s.bus.per) &&
     gives (memWrite s 0x8FFF#16 8#8 |> deliver) (fun t =>
       t.bus.per.unit == .vram [(0x8FFF, 8#8)] && t.bus.ram == s.bus.ram)) = true := by decide

/-- S8: element i of a snapshot is the byte at base + i. -/
theorem test_snapshot :
    (let s := { mapped 0xC000#16 4 0x8000#16 2 with bus := ⟨⟨0xC000#16, 4, [(0xC002, 0x11#8)]⟩, ⟨0x8000#16, 2, .vram []⟩⟩ }
     (copyOf s .ram).1 == [0#8, 0#8, 0x11#8, 0#8] && (copyOf s .peripheralMemory).1 == [0#8, 0#8]) = true := by decide

/-- Writing what an unlisted byte reads as removes the entry: equal memories are equal lists. -/
theorem test_memory_canonical :
    (Memory.write (Memory.write (Memory.write [] 5 1#8) 3 2#8) 5 0#8 == [(3, 2#8)]) = true := by decide

/-! ### NOP -/

/-- V-N2. -/
theorem test_nop : gives (step { withCode State.reset [0x00#8] with af := 0xFFFF#16, sp := 0xDEF0#16 }) (fun t =>
    t.af == 0xFFFF#16 && t.sp == 0xDEF0#16 && t.pc == 0xC001#16 && t.returned == some 4 &&
      t.notices == [⟨1000000, 4⟩]) = true := by decide

/-- V-N4: PC wraps. -/
theorem test_nop_wraps : gives (step { highRam with pc := 0xFFFF#16 }) (fun t => t.pc == 0x0000#16) = true := by decide

/-! ### LD -/

/-- V-LD1. -/
theorem test_ld_a_b : gives (step (withCode { State.reset with bc := 0x5A00#16 } [0x78#8])) (fun t =>
    t.af == 0x5A00#16 && t.pc == 0xC001#16 && t.returned == some 4) = true := by decide

/-- V-LD21. -/
theorem test_ld_b_a : gives (step (withCode { State.reset with af := 0x12FF#16 } [0x47#8])) (fun t =>
    t.bc == 0x1200#16 && t.af == 0x12FF#16) = true := by decide

/-- V-LD2: the address is the old HL. -/
theorem test_ld_h_mhl :
    (let s := { withCode State.reset [0x66#8] with hl := 0xC100#16 }
     gives (deliver ((memWrite s 0xC100#16 0x80#8).bind fun u => stepTrace u)) (fun t => t.hl == 0x8000#16)) = true := by
  decide

/-- V-LD3. -/
theorem test_ld_mhl_h : gives (step (withCode { State.reset with hl := 0xC1C1#16 } [0x74#8])) (fun t =>
    reads t.bus 0xC1C1#16 == some 0xC1#8 && t.returned == some 8) = true := by decide

/-- V-LD4. -/
theorem test_ld_a_d8 : gives (step (withCode State.reset [0x3E#8, 0xFF#8])) (fun t =>
    t.af == 0xFF00#16 && t.pc == 0xC002#16 && t.returned == some 8) = true := by decide

/-- V-LD17: the immediate one past RAM. -/
theorem test_ld_a_d8_at_the_end :
    stopsAfter (withCode { State.reset with pc := 0xDFFF#16 } [0x3E#8]) (.outOfBounds 0xE000#16)
      [.read 0xDFFF#16, .read 0xE000#16] = true := by decide

/-- V-LD5. -/
theorem test_ld_mhl_d8 : gives (step (withCode { State.reset with hl := 0x9FFF#16 } [0x36#8, 0x42#8])) (fun t =>
    t.bus.per.unit == .vram [(0x9FFF, 0x42#8)] && t.pc == 0xC002#16 && t.returned == some 12) = true := by decide

/-- V-LD6. -/
theorem test_ld_mhl_d8_unmapped :
    stopsAfter (withCode { State.reset with hl := 0xA000#16 } [0x36#8, 0x42#8]) (.outOfBounds 0xA000#16)
      [.read 0xC000#16, .read 0xC001#16, .write 0xA000#16 0x42#8] = true := by decide

/-- V-LD7 and V-LD8: BC and DE are two storages. -/
theorem test_ld_a_mbc_mde :
    (gives (step (withCode { State.reset with bc := 0xC000#16 } [0x0A#8])) (fun t => t.get8 .a == 0x0A#8) &&
      gives (step (withCode { State.reset with de := 0xC000#16 } [0x1A#8])) (fun t => t.get8 .a == 0x1A#8)) = true := by
  decide

/-- V-LD9. -/
theorem test_ld_mde_a :
    gives (step (withCode { State.reset with de := 0xC123#16, af := 0x7700#16, bc := 0xC456#16 } [0x12#8])) (fun t =>
      reads t.bus 0xC123#16 == some 0x77#8 && reads t.bus 0xC456#16 == some 0#8) = true := by decide

/-- P5, steps 2 and 4. -/
theorem test_ldh :
    (gives (step (withCode { highRam with af := 0x7700#16 } [0xE0#8, 0x80#8])) (fun t =>
        reads t.bus 0xFF80#16 == some 0x77#8 && t.pc == 0xE002#16 && t.returned == some 12) &&
      gives (step (withCode highRam [0xF0#8, 0x00#8])) (fun t => t.get8 .a == 0#8 && t.pc == 0xE002#16)) = true := by decide

/-- V-LD10: the default map has nothing there. -/
theorem test_ldh_unmapped :
    stopsAfter (withCode { State.reset with af := 0x0100#16 } [0xE0#8, 0x44#8]) (.outOfBounds 0xFF44#16)
      [.read 0xC000#16, .read 0xC001#16, .write 0xFF44#16 0x01#8] = true := by decide

/-- V-LD12 and V-LD13: the address is C zero-extended. -/
theorem test_ld_mc :
    (stopsAfter (withCode { State.reset with af := 0x0900#16, bc := 0x12C5#16 } [0xE2#8]) (.outOfBounds 0x00C5#16)
        [.read 0xC000#16, .write 0x00C5#16 0x09#8] &&
      stopsAfter (withCode { State.reset with bc := 0xFFC5#16 } [0xF2#8]) (.outOfBounds 0x00C5#16)
        [.read 0xC000#16, .read 0x00C5#16]) = true := by decide

/-- The example of R186. -/
theorem test_ld_a_mc : gives (step (withCode { lowRam with bc := 0x0002#16 } [0xF2#8, 0x00#8, 0x33#8])) (fun t =>
    t.get8 .a == 0x33#8) = true := by decide

/-- V-LD14, V-LD15, V-LD16. -/
theorem test_ld_words_fault :
    (stopsAfter (withCode State.reset [0x01#8, 0x12#8, 0x34#8]) (.illegalInstruction 0xC000#16)
        [.read 0xC000#16, .read 0xC001#16, .read 0xC002#16] &&
      stopsAfter (withCode { State.reset with pc := 0xDFFE#16 } [0x31#8, 0x12#8]) (.outOfBounds 0xE000#16)
        [.read 0xDFFE#16, .read 0xDFFF#16, .read 0xE000#16] &&
      stopsAfter (withCode State.reset [0xF9#8]) (.illegalInstruction 0xC000#16) [.read 0xC000#16]) = true := by decide

/-! ### ADD -/

/-- V-A8-1 to V-A8-4. -/
theorem test_add_a_b :
    ([(0x00#16, 0x00#8, 0x0080#16), (0x0F00#16, 0x01#8, 0x1020#16), (0xF000#16, 0x10#8, 0x0090#16),
      (0xFF00#16, 0x01#8, 0x00B0#16)].all fun x =>
        gives (exec .add_a_b ((State.reset.set16 .af x.1).set8 .b x.2.1)) (fun t => t.af == x.2.2)) = true := by decide

/-- V-A8-11 and V-A8-12: Z stays set, the unused bits stay. -/
theorem test_add_z_sticky :
    ([(0x00FF#16, 0x018F#16), (0x0080#16, 0x0180#16)].all fun x =>
        gives (exec .add_a_b ((State.reset.set16 .af x.1).set8 .b 0x01#8)) (fun t => t.af == x.2)) = true := by decide

/-- V-A8-10: both reads see the old A. -/
theorem test_add_a_a : gives (step (withCode { State.reset with af := 0x8000#16 } [0x87#8])) (fun t =>
    t.af == 0x0090#16 && t.returned == some 4) = true := by decide

/-- V-A8-13. -/
theorem test_add_a_mhl :
    gives (step (withCode { State.reset with af := 0x3C00#16, hl := 0xC001#16 } [0x86#8, 0x12#8])) (fun t =>
      t.af == 0x4E00#16 && t.returned == some 8) = true := by decide

/-- V-A8-14: a faulting ADD clears no flag. -/
theorem test_add_a_mhl_unmapped :
    stopsAfter (withCode { State.reset with af := 0x3CF0#16 } [0x86#8]) (.outOfBounds 0x0000#16)
      [.read 0xC000#16, .read 0x0000#16] = true := by decide

/-- V-A8-15: the immediate is unsigned. -/
theorem test_add_a_d8 : gives (step (withCode { State.reset with af := 0x0100#16 } [0xC6#8, 0xFF#8])) (fun t =>
    t.af == 0x00B0#16 && t.pc == 0xC002#16) = true := by decide

/-- V-A16-1 to V-A16-4. -/
theorem test_add_hl_bc :
    ([(0x0000#16, 0x0000#16, 0x0000#16, 0x80#8), (0x0FFF#16, 0x0001#16, 0x1000#16, 0x20#8),
      (0xF000#16, 0x1000#16, 0x0000#16, 0x90#8), (0xFFFF#16, 0x0001#16, 0x0000#16, 0xB0#8)].all fun x =>
        gives (exec .add_hl_bc ((State.reset.set16 .hl x.1).set16 .bc x.2.1)) (fun t =>
          t.hl == x.2.2.1 && t.get8 .f == x.2.2.2)) = true := by decide

/-- V-A16-8, V-A16-9, V-A16-10. -/
theorem test_add_hl_other :
    (gives (exec .add_hl_hl (State.reset.set16 .hl 0x8800#16)) (fun t => t.hl == 0x1000#16 && t.get8 .f == 0x30#8) &&
      gives (exec .add_hl_de { State.reset with hl := 1#16, de := 0x00FF#16, bc := 0x1111#16 }) (fun t =>
        t.hl == 0x0100#16 && t.get8 .f == 0#8) &&
      gives (exec .add_hl_sp { State.reset with hl := 1#16, sp := 0xFFFF#16 }) (fun t =>
        t.hl == 0#16 && t.get8 .f == 0xB0#8)) = true := by decide

/-- V-A16-11. -/
theorem test_add_sp_e8 :
    stopsAfter (withCode State.reset [0xE8#8, 0x02#8]) (.illegalInstruction 0xC000#16)
      [.read 0xC000#16, .read 0xC001#16] = true := by decide

/-! ### Placeholders, the sentinel, faults -/

/-- V-P1 to V-P5: no operand byte is read. -/
theorem test_placeholders :
    ([[0x3C#8], [0xCB#8, 0x37#8], [0x76#8], [0xC3#8, 0x00#8, 0xC0#8], [0x90#8]].all fun bytes =>
      stopsAfter (withCode State.reset bytes) (.unimplemented 0xC000#16) [.read 0xC000#16]) = true := by decide

/-- V-F2. -/
theorem test_invalid : stopsAfter (withCode State.reset [0xD3#8]) (.illegalInstruction 0xC000#16) [.read 0xC000#16] = true := by
  decide

/-- V-F1 and V-F3. -/
theorem test_fetch_faults :
    (stopsAfter { State.reset with pc := 0xA000#16 } (.outOfBounds 0xA000#16) [.read 0xA000#16] &&
      stopsAfter (withCode { highRam with pc := 0xFFFF#16 } [0x3E#8]) (.outOfBounds 0x0000#16)
        [.read 0xFFFF#16, .read 0x0000#16]) = true := by decide

/-- R189: LD with a byte source and a 16-bit destination, the one place of BadRegisterAccess. -/
theorem test_bad_register_access :
    faultsWith (stepWith (fun _ => ⟨.ld, .reg (.word .sp), .reg (.byte .a), 1, 4⟩) State.reset)
      (.badRegisterAccess (.word .sp) .byte) = true := by decide

/-- R84: a byte that a peripheral other than VRAM_DEFAULT answers goes to A, and the peripheral has seen the read, then the
catch-up. -/
theorem test_device_read (v : Byte) (h : Config.deviceRead 7 0x8000#16 = some v) :
    ∃ t, exec .ld_a_mhl { withDevice with hl := 0x8000#16 } = .next t ∧ t.get8 .a = v ∧
      t.bus.per.unit = .device (Config.deviceCatchup (Config.deviceAfterRead 7 0x8000#16) ⟨1000000, 8⟩) := by
  have hr : ({ withDevice with hl := 0x8000#16 } : State).bus.read 0x8000#16 = .ok v := by
    show (match Config.deviceRead 7 0x8000#16 with | some v => Except.ok v | none => _) = _
    rw [h]
  have ha : withDevice.bus.afterRead 0x8000#16 =
      { withDevice.bus with per := ⟨0x8000#16, 0x2000, .device (Config.deviceAfterRead 7 0x8000#16)⟩ } := by
    show ({ withDevice.bus with per := match Config.deviceRead 7 0x8000#16 with | some _ => _ | none => _ } : Bus) = _
    rw [h]
    rfl
  refine ⟨(State.set8 (State.afterRead { withDevice with hl := 0x8000#16 } 0x8000#16) .a v).conclude 1 8, ?_, ?_, ?_⟩
  · show deliver (runLd (.reg (.byte .a)) (.deref (.word .hl)) 1 8 _) = _
    rw [deliver_next]
    unfold runLd
    rw [resolve_deref_ok (r := .word .hl) _ _ hr]
    rfl
  · rw [State.conclude_get8, State.get8_set8_same]
  · show (Peripheral.catchup (withDevice.bus.afterRead 0x8000#16).per _).unit = _
    rw [ha]
    rfl
/-- Section 2.10 of the vectors. -/
theorem test_micros :
    (micros 32768 3 == some 92 && micros 32768 0 == some 0 && micros 4194304 4 == some 1 && micros 4194304 2 == some 0 &&
      micros 2000000 1 == some 1 && micros 8000000 12 == some 2 && micros 3 1 == some 333333 && micros 0 1 == none) = true := by
  decide

/-- V-F6, and the suggested cause numbers of R235. -/
theorem test_host_calls :
    (interrupt State.reset == (.nothingPending, State.reset) &&
      causeOf (.next State.reset) == some 0 && causeOf (.fault (.outOfBounds 0#16)) == some 1 &&
      causeOf (.fault (.illegalInstruction 0#16)) == some 2 && causeOf (.fault (.badRegisterAccess (.byte .a) .word)) == some 3 &&
      causeOf (.fault (.unimplemented 0#16)) == some 4 && (Fault.outOfBounds 0xE000#16).infoWord == 0xE000#16 &&
      (Fault.badRegisterAccess (.word .hl) .byte).infoWord == 0x080B#16) = true := by decide

/-! ### Witnesses: for each statement with hypotheses, states and operands that meet them, clause by clause -/

theorem test_witness_RamPartitionsTheAddresses :
    let r := State.reset.bus.ram
    r.wf = true ∧ (r.start.toNat ≤ (0xC000#16 : Word).toNat ∧ (0xC000#16 : Word).toNat ≤ r.start.toNat + r.size - 1) ∧
      (r.start.toNat ≤ (0xDFFF#16 : Word).toNat ∧ (0xDFFF#16 : Word).toNat ≤ r.start.toNat + r.size - 1) ∧
      (0xBFFF#16 : Word).toNat < r.start.toNat ∧ r.start.toNat + r.size - 1 < (0xE000#16 : Word).toNat := by
  refine ⟨by decide, ?_⟩
  simp [State.reset, State.launch, Params.default, Config.ramStart, Config.ramSize]

theorem test_witness_BusTriesRamThenThePeripheral :
    (∃ v, State.reset.bus.ram.read 0xDFFF#16 = .ok v) ∧ (∃ f, State.reset.bus.ram.read 0x9FFF#16 = .error f) ∧
      (∃ r, State.reset.bus.ram.write 0xC000#16 1#8 = .ok r) ∧ (∃ f, State.reset.bus.ram.write 0x8000#16 1#8 = .error f) ∧
      (∃ p, State.reset.bus.per.write 0x8000#16 1#8 = .ok p) ∧
      (∃ f, State.reset.bus.ram.write 0xA000#16 1#8 = .error f) ∧ ∃ g, State.reset.bus.per.write 0xA000#16 1#8 = .error g :=
  ⟨⟨_, rfl⟩, ⟨_, rfl⟩, ⟨_, rfl⟩, ⟨_, rfl⟩, ⟨_, rfl⟩, ⟨_, rfl⟩, ⟨_, rfl⟩⟩

theorem test_witness_UnmappedFaultsAndOverlapIsRam :
    (let b := (mapped 0x9000#16 0x2000 0x8000#16 0x2000).bus
     inRange b.ram.start b.ram.size 0xB000#16 = false ∧ inRange b.per.start b.per.size 0xB000#16 = false ∧
     inRange b.ram.start b.ram.size 0x9FFF#16 = true ∧ inRange b.per.start b.per.size 0x9FFF#16 = true) := by decide

theorem test_witness_BusFaultsCarryTheAddressOffered :
    (∃ f, State.reset.bus.read 0xA000#16 = .error f) ∧ ∃ f, State.reset.bus.write 0xE000#16 1#8 = .error f :=
  ⟨⟨_, rfl⟩, ⟨_, rfl⟩⟩

theorem test_witness_BusReadsTheLatestWrite :
    State.reset.bus.ram.wf = true ∧ State.reset.bus.per.wf = true ∧ State.reset.bus.plain 0x9FFF#16 = true ∧
      (∃ b, State.reset.bus.write 0x9FFF#16 3#8 = .ok b) ∧ State.reset.bus.steady 0xC000#16 = true ∧
      withDevice.bus.steady 0xC000#16 = true ∧ withDevice.bus.plain 0x8000#16 = false :=
  ⟨by decide, by decide, by decide, ⟨_, rfl⟩, by decide, by decide, by decide⟩

theorem test_witness_SnapshotMirrorsTheDevice :
    State.reset.wf = true ∧ State.reset.bus.per.isVram = true ∧ 0 < State.reset.bus.ram.size ∧
      0x1FFF < State.reset.bus.ram.size ∧ 0x1FFF < State.reset.bus.per.size := by decide

theorem test_witness_CatchupReachesOnlyThePeripheral :
    (∃ m, State.reset.bus.per.unit = .vram m) ∧ ∃ d, withDevice.bus.per.unit = .device d := ⟨⟨_, rfl⟩, ⟨_, rfl⟩⟩

/-- A read that fails, a read of RAM and of VRAM_DEFAULT, and another peripheral whose range holds the address. -/
theorem test_witness_ReadsReachOnlyThePeripheral :
    (∃ f, State.reset.bus.read 0xA000#16 = .error f) ∧ withDevice.bus.steady 0xC000#16 = true ∧
      State.reset.bus.steady 0x8000#16 = true ∧
      withDevice.bus.ram.holds 0x8000#16 = false ∧ withDevice.bus.per.holds 0x8000#16 = true ∧
      ∃ d, withDevice.bus.per.unit = .device d := ⟨⟨_, rfl⟩, by decide, by decide, by decide, by decide, _, rfl⟩

theorem test_witness_DecodingInvertsEncoding :
    Code.wf ⟨.nop, []⟩ = true ∧ Code.wf ⟨.ldh_a_ma8, [0xFF#8]⟩ = true ∧ Code.wf ⟨.ld_sp_d16, [0#8, 0xFF#8]⟩ = true := by decide

theorem test_witness_EncodingInvertsDecoding :
    decode [0xE8#8, 0xFF#8, 0x77#8] = .ok (⟨.add_sp_e8, [0xFF#8]⟩, [0x77#8]) := rfl

theorem test_witness_StepRunsTheDecodedInstruction :
    decode [0x3E#8, 0xFF#8] = .ok (⟨.ld_a_d8, [0xFF#8]⟩, []) ∧
      (∀ op, [0x3E#8, 0xFF#8].head? = some op →
        (withCode State.reset [0x3E#8, 0xFF#8]).bus.read (withCode State.reset [0x3E#8, 0xFF#8]).pc = .ok op) ∧
      State.reset.bus.read State.reset.pc = .ok 0x00#8 ∧
      ∃ f, ({ State.reset with pc := 0xA000#16 } : State).bus.read 0xA000#16 = .error f :=
  ⟨rfl, fun op h => by cases h; rfl, rfl, ⟨_, rfl⟩⟩

/-- A row of each form: `LdRegisterMovesAByte`, `LoadThroughARegister`, `StoreThroughARegister`,
`LdImmediateLoadsTheNextByte`, `AddRegisterToA`, `AddPairToHl`, `PlaceholdersStopUnimplemented`, `InvalidOpcodesAreIllegal`. -/
theorem test_witness_instruction_rows :
    (Instr.ld_a_b, Reg8.a, Reg8.b) ∈ ldRegisterRows ∧ (Instr.ld_a_mbc, Reg8.a, RegName.word .bc) ∈ loadRows ∧
      (Instr.ld_a_mc, Reg8.a, RegName.byte .c) ∈ loadRows ∧ (Instr.ld_mde_a, Reg8.a, RegName.word .de) ∈ storeRows ∧
      (Instr.ld_mc_a, Reg8.a, RegName.byte .c) ∈ storeRows ∧ (Instr.ld_a_d8, Reg8.a) ∈ ldImmediateRows ∧
      (Instr.add_a_a, Reg8.a) ∈ addRegisterRows ∧ (Instr.add_hl_sp, Reg16.sp) ∈ addPairRows ∧
      Instr.halt ∈ placeholderRows ∧ Instr.invalid_d3 ∈ invalidRows := by decide

/-- `LoadThroughARegister`: the read answers at the last byte of RAM and not at the byte after it; through C it answers
with RAM at the bottom of memory and not with the default map. -/
theorem test_witness_LoadThroughARegister :
    (∃ v, ({ State.reset with bc := 0xDFFF#16 } : State).bus.read
        (State.pointer { State.reset with bc := 0xDFFF#16 } (.word .bc)) = .ok v) ∧
      (∃ f, ({ State.reset with bc := 0xE000#16 } : State).bus.read
        (State.pointer { State.reset with bc := 0xE000#16 } (.word .bc)) = .error f) ∧
      (∃ v, ({ lowRam with bc := 0x12FF#16 } : State).bus.read
        (State.pointer { lowRam with bc := 0x12FF#16 } (.byte .c)) = .ok v) ∧
      ∃ f, State.reset.bus.read (State.reset.pointer (.byte .c)) = .error f := ⟨⟨_, rfl⟩, ⟨_, rfl⟩, ⟨_, rfl⟩, ⟨_, rfl⟩⟩

/-- `StoreThroughARegister`: the Bus takes the register's byte at the last byte of RAM and not at the byte after it; through
C it takes it with RAM at the bottom of memory and not with the default map. -/
theorem test_witness_StoreThroughARegister :
    (let s : State := { State.reset with de := 0xDFFF#16, af := 0x7F00#16 }
     s.bus.plain (s.pointer (.word .de)) = true ∧ ∃ b, s.bus.write (s.pointer (.word .de)) (s.get8 .a) = .ok b) ∧
      (let s : State := { State.reset with de := 0xE000#16, af := 0x7F00#16 }
       ∃ f, s.bus.write (s.pointer (.word .de)) (s.get8 .a) = .error f) ∧
      (∃ b, lowRam.bus.write (lowRam.pointer (.byte .c)) (lowRam.get8 .a) = .ok b) ∧
      ∃ f, State.reset.bus.write (State.reset.pointer (.byte .c)) (State.reset.get8 .a) = .error f :=
  ⟨⟨by decide, _, rfl⟩, ⟨_, rfl⟩, ⟨_, rfl⟩, ⟨_, rfl⟩⟩

/-- The immediate read answers, and does not where PC is the last byte of RAM: `LdImmediateLoadsTheNextByte`,
`AddImmediateToA`, `LdhLoadsAFromTheHighPage`, `LdhStoresAIntoTheHighPage`, `LdHlImmediateStoresTheNextByte`, and the second
byte of `WidthMismatchAlwaysFaults`. -/
theorem test_witness_immediates :
    (∃ v, State.reset.bus.read (State.reset.pc + 1) = .ok v) ∧
      (∃ v, (State.reset.bus.afterRead (State.reset.pc + 1)).read (State.reset.pc + 2) = .ok v) ∧
      (∃ f, ({ State.reset with pc := 0xDFFF#16 } : State).bus.read (0xDFFF#16 + 1) = .error f) ∧
      (∃ v, ({ State.reset with pc := 0xDFFE#16 } : State).bus.read (0xDFFE#16 + 1) = .ok v) ∧
      ∃ f, (({ State.reset with pc := 0xDFFE#16 } : State).bus.afterRead (0xDFFE#16 + 1)).read (0xDFFE#16 + 2) = .error f :=
  ⟨⟨_, rfl⟩, ⟨_, rfl⟩, ⟨_, rfl⟩, ⟨_, rfl⟩, ⟨_, rfl⟩⟩

/-- `LdHlImmediateStoresTheNextByte`: HL at the last byte of VRAM_DEFAULT, and at the byte after it. -/
theorem test_witness_LdHlImmediateStoresTheNextByte :
    (let s := withCode { State.reset with hl := 0x9FFF#16 } [0x36#8, 0x42#8]
     s.bus.read (s.pc + 1) = .ok 0x42#8 ∧ s.bus.plain s.hl = true ∧
       ∃ b, (s.bus.afterRead (s.pc + 1)).write s.hl 0x42#8 = .ok b) ∧
      (let s := withCode { State.reset with hl := 0xA000#16 } [0x36#8, 0x42#8]
       s.bus.read (s.pc + 1) = .ok 0x42#8 ∧ ∃ f, (s.bus.afterRead (s.pc + 1)).write s.hl 0x42#8 = .error f) :=
  ⟨⟨rfl, by decide, _, rfl⟩, rfl, _, rfl⟩

/-- Both LDH forms: the high page answers with RAM at the top of memory, at its first and last address, and not with the
default map. -/
theorem test_witness_Ldh :
    (let s := withCode highRam [0xE0#8, 0xFF#8]
     s.bus.read (s.pc + 1) = .ok 0xFF#8 ∧ s.bus.plain (0xFF#8 ++ 0xFF#8) = true ∧
       (∃ b, (s.bus.afterRead (s.pc + 1)).write (0xFF#8 ++ 0xFF#8) (s.get8 .a) = .ok b) ∧
       ∃ v, (s.bus.afterRead (s.pc + 1)).read (0xFF#8 ++ 0xFF#8) = .ok v) ∧
      (let s := withCode highRam [0xF0#8, 0x00#8]
       s.bus.read (s.pc + 1) = .ok 0x00#8 ∧ s.bus.plain (0xFF#8 ++ 0x00#8) = true ∧
         ∃ v, (s.bus.afterRead (s.pc + 1)).read (0xFF#8 ++ 0x00#8) = .ok v) ∧
      let s := withCode State.reset [0xE0#8, 0x44#8]
      s.bus.read (s.pc + 1) = .ok 0x44#8 ∧
        (∃ f, (s.bus.afterRead (s.pc + 1)).write (0xFF#8 ++ 0x44#8) (s.get8 .a) = .error f) ∧
        ∃ f, (s.bus.afterRead (s.pc + 1)).read (0xFF#8 ++ 0x44#8) = .error f :=
  ⟨⟨rfl, by decide, ⟨_, rfl⟩, _, rfl⟩, ⟨rfl, by decide, _, rfl⟩, rfl, ⟨_, rfl⟩, _, rfl⟩

/-- Distinct flag positions, and the read at HL answering and not: `AddRegisterToA`, `AddMemoryToA`,
`AddImmediateToA`, `AddPairToHl`. -/
theorem test_witness_Add :
    State.reset.flagBits.distinct = true ∧ (∃ v, ({ State.reset with hl := 0xC000#16 } : State).bus.read 0xC000#16 = .ok v) ∧
      ∃ f, State.reset.bus.read State.reset.hl = .error f := ⟨by decide, ⟨_, rfl⟩, ⟨_, rfl⟩⟩

/-- An opcode of each stopping class stands at PC: `PlaceholdersStopUnimplemented`, `InvalidOpcodesAreIllegal`. -/
theorem test_witness_stops :
    (withCode State.reset [0x76#8]).bus.read (withCode State.reset [0x76#8]).pc = .ok (opcodeOf .halt) ∧
      (withCode State.reset [0xD3#8]).bus.read (withCode State.reset [0xD3#8]).pc = .ok (opcodeOf .invalid_d3) := ⟨rfl, rfl⟩

/-- Every value and every fault a source operand can have, and both kinds of pointer: `OperandsResolve`,
`LdMovesAByteForAnyOperands`, `ByteAdditionArithmetic`, `WordAdditionArithmetic`, `AddRefusesOtherOperands`. -/
theorem test_witness_operands :
    (∃ u, (resolve State.reset (.reg (.byte .b)) State.reset.pc).result = .ok (.byte 0#8, u)) ∧
      (∃ u, (resolve State.reset (.reg (.word .sp)) State.reset.pc).result = .ok (.word 0#16, u)) ∧
      (∃ u, (resolve State.reset .immWord State.reset.pc).result = .ok (.word 0#16, u)) ∧
      (resolve State.reset (.deref (.byte .c)) State.reset.pc).result = .error (.outOfBounds 0x0000#16) ∧
      (∃ u, (resolve highRam .offsetImm highRam.pc).result = .ok (.byte 0#8, u)) ∧
      (resolve State.reset .none State.reset.pc).result = .error (.illegalInstruction 0xC000#16) ∧
      Reg8.a ≠ .f ∧ Reg16.hl ≠ .af ∧ Reg16.sp ≠ .pc ∧ (∀ r, Operand.immByte ≠ .reg r) :=
  ⟨⟨_, rfl⟩, ⟨_, rfl⟩, ⟨_, rfl⟩, rfl, ⟨_, rfl⟩, rfl, by decide, by decide, by decide, fun _ => by simp⟩

/-- The destination accesses of `LdMovesAByteForAnyOperands` on the machine `u` that a register source leaves: the Bus takes
the byte through a pointer and through an offset, and not. -/
theorem test_witness_LdMovesAByteForAnyOperands :
    (∃ b, highRam.bus.write (highRam.pointer (.word .pc)) (highRam.get8 .b) = .ok b) ∧
      (∃ f, State.reset.bus.write (State.reset.pointer (.word .hl)) (State.reset.get8 .b) = .error f) ∧
      (∃ f, ({ State.reset with pc := 0xDFFF#16 } : State).bus.read (0xDFFF#16 + 1) = .error f) ∧
      (let s := withCode highRam [0xE0#8, 0xFF#8]
       s.bus.read (s.pc + 1) = .ok 0xFF#8 ∧
         ∃ b, (s.bus.afterRead (s.pc + 1)).write (0xFF#8 ++ 0xFF#8) (s.get8 .b) = .ok b) ∧
      let s := withCode State.reset [0xE0#8, 0x44#8]
      s.bus.read (s.pc + 1) = .ok 0x44#8 ∧
        ∃ f, (s.bus.afterRead (s.pc + 1)).write (0xFF#8 ++ 0x44#8) (s.get8 .b) = .error f :=
  ⟨⟨_, rfl⟩, ⟨_, rfl⟩, ⟨_, rfl⟩, ⟨rfl, _, rfl⟩, rfl, _, rfl⟩

/-- A table with an entry of each kind, and an entry that is refused. -/
theorem test_witness_AnyTableDispatchesOnTheKind :
    State.reset.bus.read State.reset.pc = .ok 0x00#8 ∧
      Descriptor.wf ⟨.add, .reg (.byte .f), .reg (.byte .a), 1, 4⟩ = false ∧
      ([Kind.invalid, .placeholder .halt, .nop, .ld, .add].all fun k =>
        Descriptor.wf ⟨k, .reg (.word .bc), .immWord, 3, 4⟩) = true := ⟨rfl, by decide, by decide⟩

/-- Every kind of step there is, from a well-formed state with Z set: `StepKeepsTheMachineWellFormed`,
`ParametersNeverChange`, `StepAdvancesPcByTheWidth`, `NoStepWritesSp`, `NoStepClearsZero`, `OnlyAddWritesF`,
`CatchupOnceAndLast`, `AccessesComeInOrder`. -/
theorem test_witness_steps :
    State.wf { State.reset with af := 0x0180#16, hl := 0xC100#16 } = true ∧
      State.flag { State.reset with af := 0x0180#16, hl := 0xC100#16 } .z = true ∧
      ([[0x00#8], [0x78#8], [0x77#8], [0x80#8], [0x09#8]].all fun bytes =>
        gives (step (withCode { State.reset with af := 0x0180#16, hl := 0xC100#16 } bytes)) fun _ => true) = true ∧
      (descriptorOf .ld_a_b).kind ≠ .add ∧ (descriptorOf .nop).kind = .nop ∧ (descriptorOf .add_a_b).kind = .add ∧
      (descriptorOf .ld_mhl_a).kind = .ld := by decide

/-- `FaultsOfAStep` and the second clause of `CatchupOnceAndLast`: a fetch, a read, a write that fault, and both stops. -/
theorem test_witness_faults :
    (faultsWith (step { State.reset with pc := 0xA000#16 }) (.outOfBounds 0xA000#16) &&
      faultsWith (step (withCode State.reset [0x7E#8])) (.outOfBounds 0x0000#16) &&
      faultsWith (step (withCode State.reset [0x77#8])) (.outOfBounds 0x0000#16) &&
      faultsWith (step (withCode State.reset [0xDD#8])) (.illegalInstruction 0xC000#16) &&
      faultsWith (step (withCode State.reset [0x10#8])) (.unimplemented 0xC000#16)) = true := by decide

/-- Legal: the default launch, and one whose RAM ends at 0xFFFF and lists its last byte. Not legal: no frequency, a range one
byte too long, a shared flag position, a listed byte past the range. -/
theorem test_witness_ConstructionTakesTheLaunchValues :
    launchLegal Params.default Init.default ∧
      launchLegal { Params.default with ramStart := 0xE000#16 } { Init.default with ram := [(0xFFFF, 1#8)] } ∧
      ¬ launchLegal { Params.default with freqHz := 0 } Init.default ∧
      ¬ launchLegal { Params.default with ramStart := 0xE001#16 } Init.default ∧
      ¬ launchLegal { Params.default with flagBits := ⟨7, 6, 5, 7⟩ } Init.default ∧
      ¬ launchLegal Params.default { Init.default with ram := [(0xE000, 1#8)] } := by
  refine ⟨⟨by decide, by decide, by decide, by decide, by decide, fun m h => ?_⟩,
    ⟨by decide, by decide, by decide, by decide, by decide, fun m h => ?_⟩, fun h => ?_, fun h => ?_, fun h => ?_,
    fun h => ?_⟩
  · cases h; decide
  · cases h; decide
  · exact absurd h.1 (by decide)
  · exact absurd h.2.1 (by decide)
  · exact absurd h.2.2.2.1 (by decide)
  · exact absurd h.2.2.2.2.1 (by decide)

/-- Two machines with VRAM_DEFAULT that differ in the clock frequency and the notifications recorded, on a step that succeeds
and on one that faults. -/
theorem test_witness_ClockIsNeverReadWithVram :
    (∀ pc : Word, sameButClock { State.reset with pc := pc }
      { State.reset with pc := pc, freqHz := 1, notices := [⟨1, 4⟩] }) ∧
      State.reset.bus.per.isVram = true ∧ (gives (step State.reset) fun _ => true) = true ∧
      faultsWith (step { State.reset with pc := 0xA000#16 }) (.outOfBounds 0xA000#16) = true :=
  ⟨fun _ => rfl, by decide, by decide, by decide⟩

/-- Stores of each form, one onto the byte after the opcode and one onto the opcode itself (R180); an offset byte is read. -/
theorem test_witness_NoOperationReadsAndWritesOneAddress :
    ((stepTrace (withCode { State.reset with hl := 0xC100#16 } [0x70#8])).events.contains (.write 0xC100#16 0#8) &&
      (let s := withCode { State.reset with hl := 0xC001#16 } [0x36#8, 0x5A#8]
       (stepTrace s).events.contains (.write 0xC001#16 0x5A#8) && (stepTrace s).events.contains (.read 0xC001#16)) &&
      (let s := withCode { State.reset with hl := 0xC000#16 } [0x36#8, 0x5A#8]
       (stepTrace s).events.contains (.write 0xC000#16 0x5A#8) && (stepTrace s).events.contains (.read 0xC000#16)) &&
      (runDescriptor (descriptorOf .ld_mhl_b) State.reset).events.contains (.write 0#16 0#8) &&
      (storeByte State.reset .offsetImm 0#8 State.reset.pc).events.contains (.read 0xC001#16)) = true := by decide

/-- Two faults of one code and one information word: `FaultReportIdentifiesTheFault`. -/
theorem test_witness_FaultReportIdentifiesTheFault :
    (Fault.outOfBounds 0xE000#16).causeCode = (Fault.outOfBounds 0xE000#16).causeCode ∧
      (Fault.outOfBounds 0xE000#16).infoWord = (Fault.outOfBounds 0xE000#16).infoWord := ⟨rfl, rfl⟩

/-- A step that stores an opcode where the next step fetches it. -/
theorem test_witness_StoresAreSeenByTheNextFetch :
    (let s := withCode { State.reset with hl := 0xC001#16, bc := 0x7800#16 } [0x70#8]
     s.wf && gives (step s) (fun t => t.pc == 0xC001#16) && (stepTrace s).events.contains (.write 0xC001#16 0x78#8) &&
       s.bus.plain 0xC001#16) = true := by decide

theorem test_witness_InterruptIsAStub : State.reset.intHook = .nothingPending := rfl

theorem test_witness_MicrosRoundsToTheNearest : (1 : Nat) ≤ 1 ∧ 1 ≤ 32768 := by decide

end Sys2Proof.Tests
end

section
/-! The statements about Words and register storage (spec/10_state.md R20 to R27). -/
namespace Sys2Proof.Proofs
open Sys2Proof.Machine

/-! ### What the halves and the bits of a Word read after a write -/

/-- Either order of the two setters builds the Word of the two bytes (R20); here the low half last. -/
theorem setLow_setHigh (w : Word) (h l : Byte) : setLow (setHigh w h) l = wordOf h l :=
  congrArg (wordOf · l) (getHigh_setHigh w h)

/-- The high half last. -/
theorem setHigh_setLow (w : Word) (h l : Byte) : setHigh (setLow w l) h = wordOf h l :=
  congrArg (wordOf h) (getLow_setLow w l)

/-- R22, `set_bit`: the named bit reads 1, every other bit as before. -/
theorem testBit_setBit (w : Word) (i k : Fin 16) :
    testBit (setBit w i) k = if k = i then true else testBit w k := by
  unfold testBit
  rw [getLsbD_setBit]
  by_cases hk : k = i
  · simp [hk]
  · simp [hk, Fin.val_ne_of_ne hk]

/-- R22, `unset_bit`: the named bit reads 0, every other bit as before. -/
theorem testBit_unsetBit (w : Word) (i k : Fin 16) :
    testBit (unsetBit w i) k = if k = i then false else testBit w k := by
  unfold testBit
  rw [getLsbD_unsetBit]
  by_cases hk : k = i
  · simp [hk]
  · simp [hk, Fin.val_ne_of_ne hk]

/-! ### The statements -/

/-- Settles O1: each half is its eight bits of the Word, and both orders of the setters build `wordOf h l`. -/
theorem wordHalvesAreIndependent : Obligations.WordHalvesAreIndependent := by
  intro w h l
  have highBits : ∀ k < 8, (getHigh w).getLsbD k = w.getLsbD (8 + k) := fun k hk => by
    rw [getLsbD_getHigh, decide_eq_true hk, Bool.true_and]
  have lowBits : ∀ k < 8, (getLow w).getLsbD k = w.getLsbD k := fun k hk => by
    rw [getLsbD_getLow, decide_eq_true hk, Bool.true_and]
  rw [setLow_setHigh, setHigh_setLow]
  exact ⟨highBits, lowBits, getHigh_setHigh w h, getLow_setHigh w h, getLow_setLow w l, getHigh_setLow w l,
    getHigh_wordOf h l, getLow_wordOf h l, getHigh_wordOf h l, getLow_wordOf h l⟩

/-- Settles O2: `test_bit` reads the bit by definition; the setters by their effect on every bit. -/
theorem wordBitOperationsTouchOneBit : Obligations.WordBitOperationsTouchOneBit :=
  fun w i => ⟨rfl, testBit_setBit w i, testBit_unsetBit w i⟩

/-- Settles O3: a pair is the concatenation of its halves (`wordOf_halves`), and the write rules of the register file
say what each write reads back and what it leaves. -/
theorem pairsShareStorageWithTheirHalves : Obligations.PairsShareStorageWithTheirHalves := by
  intro s
  refine ⟨(wordOf_halves s.af).symm, (wordOf_halves s.bc).symm, (wordOf_halves s.de).symm, (wordOf_halves s.hl).symm,
    fun r v => ?byte, fun r w => ?word⟩
  case byte =>
    exact ⟨s.get8_set8_same r v, fun _ hq => s.get8_set8_other v hq, s.set8_sp r v, s.set8_pc r v, s.set8_bus r v⟩
  case word =>
    exact ⟨s.get16_set16_same r w, fun _ hq => s.get16_set16_other w hq, s.set16_bus r w⟩

end Sys2Proof.Proofs
end

section
/-! The statements about the RAM device and the Bus arbiter (spec/20_memory.md R64 to R73). -/
namespace Sys2Proof.Proofs
open Sys2Proof.Machine

/-! ### The RAM device: its edges, and what it reads after a write -/

/-- R64: a well-formed RAM device accepts the addresses up to its last byte. Its range is not empty, so that the
subtraction does not stop at 0. -/
theorem ram_holds_iff {r : Ram} (hwf : r.wf = true) {a : Word} :
    r.holds a = true ↔ r.start.toNat ≤ a.toNat ∧ a.toNat ≤ r.start.toNat + r.size - 1 := by
  simp only [Ram.wf, rangeOk, Bool.and_eq_true, decide_eq_true_eq] at hwf
  obtain ⟨⟨nonempty, -⟩, -⟩ := hwf
  unfold Ram.holds
  rw [inRange_iff]
  omega

/-- A write leaves the range. -/
theorem ram_holds_write {r r' : Ram} {a : Word} {v : Byte} (hw : r.write a v = .ok r') (b : Word) :
    r'.holds b = r.holds b := by
  obtain ⟨-, rfl⟩ := Ram.write_ok hw
  rfl

/-- R67: the address written reads the byte written, in canonical form. -/
theorem ram_read_write_same {r r' : Ram} (hwf : r.wf = true) {a : Word} {v : Byte} (hw : r.write a v = .ok r') :
    r'.read a = .ok v := by
  obtain ⟨inside, written⟩ := Ram.write_ok hw
  simp only [Ram.wf, Bool.and_eq_true] at hwf
  rw [Ram.read_of_holds ((ram_holds_write hw a).trans inside), written, Memory.read_write_same hwf.2]

/-- R66: every other address answers as before, inside the range and outside it. -/
theorem ram_read_write_other {r r' : Ram} {a b : Word} {v : Byte} (hw : r.write a v = .ok r') (hne : b ≠ a) :
    r'.read b = r.read b := by
  obtain ⟨-, written⟩ := Ram.write_ok hw
  unfold Ram.read
  rw [ram_holds_write hw b, written, Memory.read_write_other _ _ (Word.toNat_ne hne)]

/-! ### The Bus: one equation per answer of the RAM device and of the peripheral -/

/-- R72: what RAM answers, the Bus answers. -/
theorem bus_read_of_ram_ok {b : Bus} {a : Word} {v : Byte} (h : b.ram.read a = .ok v) : b.read a = .ok v := by
  unfold Bus.read; rw [h]

/-- R72: where RAM rejects, the peripheral answers. -/
theorem bus_read_of_ram_error {b : Bus} {a : Word} {f : Fault} (h : b.ram.read a = .error f) :
    b.read a = b.per.read a := by
  unfold Bus.read; rw [h]

/-- R73: a write that RAM takes. -/
theorem bus_write_of_ram_ok {b : Bus} {a : Word} {v : Byte} {r : Ram} (h : b.ram.write a v = .ok r) :
    b.write a v = .ok { b with ram := r } := by
  unfold Bus.write; rw [h]

/-- R73: a write that RAM rejects and the peripheral takes. -/
theorem bus_write_of_peripheral_ok {b : Bus} {a : Word} {v : Byte} {f : Fault} {p : Peripheral}
    (hr : b.ram.write a v = .error f) (hp : b.per.write a v = .ok p) : b.write a v = .ok { b with per := p } := by
  unfold Bus.write; simp only [hr, hp]

/-- R73: a write that both reject faults as the peripheral does. -/
theorem bus_write_of_peripheral_error {b : Bus} {a : Word} {v : Byte} {f g : Fault}
    (hr : b.ram.write a v = .error f) (hp : b.per.write a v = .error g) : b.write a v = .error g := by
  unfold Bus.write; simp only [hr, hp]

/-! ### The statements -/

/-- Settles O5: the device accepts exactly the addresses between its edges (`ram_holds_iff`), where its read-after-write
rules speak, and rejects every other with the address offered. -/
theorem ramPartitionsTheAddresses : Obligations.RamPartitionsTheAddresses := by
  intro r a hwf
  refine ⟨fun hlo hhi => ?inside, fun hout => ?outside⟩
  case inside =>
    have holds : r.holds a = true := (ram_holds_iff hwf).mpr ⟨hlo, hhi⟩
    refine ⟨⟨_, Ram.read_of_holds holds⟩, fun v => ?_⟩
    have written := Ram.write_of_holds holds v
    exact ⟨_, written, ram_read_write_same hwf written, fun _ hne => ram_read_write_other written hne⟩
  case outside =>
    have rejects : r.holds a = false := by
      rw [Bool.eq_false_iff, ne_eq, ram_holds_iff hwf]
      omega
    exact ⟨Ram.read_of_not_holds rejects, Ram.write_of_not_holds rejects⟩

/-- Settles O6: the equations of the Bus, by who answers. -/
theorem busTriesRamThenThePeripheral : Obligations.BusTriesRamThenThePeripheral := by
  intro b a
  refine ⟨fun _ => bus_read_of_ram_ok, fun _ => bus_read_of_ram_error, fun v r taken => ?_,
    fun v f rejected => ⟨fun p taken => ?_, fun g => bus_write_of_peripheral_error rejected⟩⟩
  · exact ⟨_, bus_write_of_ram_ok taken, rfl, rfl⟩
  · exact ⟨_, bus_write_of_peripheral_ok rejected taken, rfl, rfl⟩

end Sys2Proof.Proofs
end

section
/-! The statements about the arithmetic of ADD (spec/43_add.md R200 to R202). -/
namespace Sys2Proof.Proofs
open Sys2Proof.Machine Sys2Proof.Terms

/-! ### The carries, as sums of the operands -/

/-- Masking with `k` low ones keeps the remainder by `2 ^ k`. -/
theorem toNat_and_lowOnes {n k : Nat} (a : BitVec n) {ones : BitVec n} (h : ones.toNat = 2 ^ k - 1) :
    (a &&& ones).toNat = a.toNat % 2 ^ k := by
  rw [BitVec.toNat_and, h, Nat.and_two_pow_sub_one_eq_mod]

theorem halfCarry8_iff (a b : Byte) : halfCarry8 a b = true ↔ 2 ^ 4 ≤ a.toNat % 2 ^ 4 + b.toNat % 2 ^ 4 := by
  have low (v : Byte) : (v &&& 0x0F#8).toNat = v.toNat % 2 ^ 4 := toNat_and_lowOnes v rfl
  rw [halfCarry8, decide_eq_true_iff, low, low]
  rfl

theorem carry8_iff (a b : Byte) : carry8 a b = true ↔ 2 ^ 8 ≤ a.toNat + b.toNat := decide_eq_true_iff

theorem halfCarry16_iff (a b : Word) : halfCarry16 a b = true ↔ 2 ^ 12 ≤ a.toNat % 2 ^ 12 + b.toNat % 2 ^ 12 := by
  have low (v : Word) : (v &&& 0x0FFF#16).toNat = v.toNat % 2 ^ 12 := toNat_and_lowOnes v rfl
  rw [halfCarry16, decide_eq_true_iff, low, low]
  rfl

theorem carry16_iff (a b : Word) : carry16 a b = true ↔ 2 ^ 16 ≤ a.toNat + b.toNat := decide_eq_true_iff

/-- N, H and C after the 8-bit ADD depend on the operands alone (R200, R201). -/
theorem add8_carriesOf {s : State} (hd : s.flagBits.distinct = true) {r : Reg8} (hr : r ≠ .f) (a b : Byte) :
    carriesOf 4 8 a.toNat b.toNat (s.add8 r a b) := by
  obtain ⟨n, h, c, -⟩ := s.add8_flags a b hd hr
  exact ⟨n, h ▸ halfCarry8_iff a b, c ▸ carry8_iff a b⟩

/-- N, H and C after the 16-bit ADD depend on the operands alone (R200, R202). -/
theorem add16_carriesOf {s : State} (hd : s.flagBits.distinct = true) {r : Reg16} (hr : r ≠ .af) (a b : Word) :
    carriesOf 12 16 a.toNat b.toNat (s.add16 r a b) := by
  obtain ⟨n, h, c, -⟩ := s.add16_flags a b hd hr
  exact ⟨n, h ▸ halfCarry16_iff a b, c ▸ carry16_iff a b⟩

/-! ### The end of an ADD whose source has the destination's width -/

/-- Resolving an operand keeps the flag positions. -/
theorem resolve_flagBits {s u : State} {o : Operand} {ia : Word} {v : Value}
    (h : (resolve s o ia).result = .ok (v, u)) : u.flagBits = s.flagBits := by
  obtain ⟨_, -, rfl⟩ := resolve_leaves s ia h
  rfl

/-- The end of a step writes no Word but PC. -/
theorem conclude_get16 (s : State) (w c : Nat) {r : Reg16} (hr : r ≠ .pc) :
    (s.conclude w c).get16 r = s.get16 r := by
  cases r with
  | pc => exact absurd rfl hr
  | _ => rfl

/-- R200: an 8-bit destination and a source byte. -/
theorem runAdd_of_byte {s u : State} {src : Operand} {b : Byte} (h : (resolve s src s.pc).result = .ok (.byte b, u))
    (r : Reg8) (w c : Nat) :
    deliver (runAdd (.reg (.byte r)) src w c s) = .next ((u.add8 r (s.get8 r) b).conclude w c) := by
  rw [deliver_next]
  exact Traced.bind_result_ok.mpr ⟨_, h, rfl⟩

/-- R200: a 16-bit destination and a source word. -/
theorem runAdd_of_word {s u : State} {src : Operand} {b : Word} (h : (resolve s src s.pc).result = .ok (.word b, u))
    (r : Reg16) (w c : Nat) :
    deliver (runAdd (.reg (.word r)) src w c s) = .next ((u.add16 r (s.get16 r) b).conclude w c) := by
  rw [deliver_next]
  exact Traced.bind_result_ok.mpr ⟨_, h, rfl⟩

/-! ### The statements -/

/-- Settles O37: the flags of the machine that `runAdd_of_byte` names are those `add8_carriesOf` counts, and its
destination is the wrapped sum (`State.add8_dest`). -/
theorem byteAdditionArithmetic : Obligations.ByteAdditionArithmetic := by
  intro r src w c s u b hr distinct source
  have kept : u.flagBits.distinct = true := by rw [resolve_flagBits source, distinct]
  obtain ⟨noSub, half, carry⟩ := add8_carriesOf kept hr (s.get8 r) b
  refine ⟨_, runAdd_of_byte source r w c, ?sum, half, carry, noSub⟩
  case sum => rw [State.conclude_get8, State.add8_dest _ _ _ hr, BitVec.toNat_add]

/-- Settles O38: as O37, by `runAdd_of_word` and `add16_carriesOf`; the end of the step leaves the destination, which is
not PC. -/
theorem wordAdditionArithmetic : Obligations.WordAdditionArithmetic := by
  intro r src w c s u b notAf notPc distinct source
  have kept : u.flagBits.distinct = true := by rw [resolve_flagBits source, distinct]
  obtain ⟨noSub, half, carry⟩ := add16_carriesOf kept notAf (s.get16 r) b
  refine ⟨_, runAdd_of_word source r w c, ?sum, half, carry, noSub⟩
  case sum => rw [conclude_get16 _ w c notPc, State.add16_dest _ _ _ notAf, BitVec.toNat_add]

end Sys2Proof.Proofs
end

section
/-! The opcode table, row by row, and the statements about decoding and encoding (spec/30_encoding.md R100 to R114). -/
namespace Sys2Proof.Proofs
open Sys2Proof.Machine Sys2Proof.Terms

/-! ### The table against the two directions of the code -/

/-- Every instruction: its opcode byte decodes to it, and its row meets R110 (b) to (f). -/
theorem opcodeAgreement (i : Instr) : Laws.OpcodeAgreement.Statement i := by
  cases i <;> exact ⟨rfl, rfl, rfl⟩

@[simp] theorem decodeOpcode_opcodeOf (i : Instr) : decodeOpcode (opcodeOf i) = i := (opcodeAgreement i).1

/-- Every row meets R110 (b) and (c). -/
theorem instr_wf (i : Instr) : i.wf = true := (opcodeAgreement i).2.1

/-- Every row meets R110 (d) to (f). -/
theorem descriptorOf_wfDefault (i : Instr) : (descriptorOf i).wfDefault = true := (opcodeAgreement i).2.2

/-- The rows in order of the opcode carry the opcodes 0 to 255. -/
theorem opcodeList_opcodes : opcodeList.map opcodeOf = (List.range 256).map (BitVec.ofNat 8) := by
  decide +kernel

/-- No two opcode bytes select one instruction. -/
@[simp] theorem opcodeOf_decodeOpcode (op : Byte) : opcodeOf (decodeOpcode op) = op := by
  have row : (opcodeList.map opcodeOf)[op.toNat]? = some (BitVec.ofNat 8 op.toNat) := by
    rw [opcodeList_opcodes]; simp [op.isLt]
  have entry : opcodeList[op.toNat]? = some (decodeOpcode op) := List.getElem?_eq_getElem _
  rw [List.getElem?_map, entry] at row
  simpa using row

/-! ### The statements -/

/-- Settles O13: the opcode byte decodes to the instruction (`decodeOpcode_opcodeOf`), whose operand count is the number
of operand bytes, so that taking and dropping that many splits them from what follows. -/
theorem decodingInvertsEncoding : Obligations.DecodingInvertsEncoding := by
  rintro ⟨i, operands⟩ rest hwf
  obtain ⟨-, count⟩ : i.wf = true ∧ operands.length = operandCount i := by
    simpa [Code.wf] using hwf
  have enough : operandCount i ≤ (operands ++ rest).length := by rw [List.length_append]; omega
  calc decode (encode ⟨i, operands⟩ ++ rest)
      = .ok (⟨i, (operands ++ rest).take (operandCount i)⟩, (operands ++ rest).drop (operandCount i)) := by
        simp only [encode, List.cons_append, decode, decodeOpcode_opcodeOf, if_pos enough]
    _ = .ok (⟨i, operands⟩, rest) := by rw [← count, List.take_left, List.drop_left]

/-- Settles O14: what decodes starts with an opcode byte, which is the one of the instruction it selects
(`opcodeOf_decodeOpcode`), and its operand bytes and the rest are the two parts of what follows. -/
theorem encodingInvertsDecoding : Obligations.EncodingInvertsDecoding := by
  intro bytes rest c hdec
  cases bytes with
  | nil => cases hdec
  | cons op tail =>
    simp only [decode] at hdec
    split at hdec
    case isFalse => cases hdec
    case isTrue enough =>
      cases hdec
      constructor
      · simp [Code.wf, instr_wf, enough]
      · simp [encode]

/-- Settles O15: each word by evaluation. -/
theorem sampleWordsDecode : Obligations.SampleWordsDecode :=
  ⟨rfl, rfl, rfl, rfl, rfl, rfl, rfl, rfl, rfl, rfl, rfl⟩

/-- Settles O16: every row meets its conditions (`opcodeAgreement`), the opcode of an instruction selects it, and the
classes are counted on the list of rows. -/
theorem defaultTableMeetsItsConditions : Obligations.DefaultTableMeetsItsConditions :=
  ⟨fun op => ⟨instr_wf (decodeOpcode op), descriptorOf_wfDefault (decodeOpcode op)⟩,
    fun i => ⟨opcodeOf i, decodeOpcode_opcodeOf i⟩, rfl, rfl, rfl, rfl⟩

end Sys2Proof.Proofs
end

section
/-! The statements about the register accessors and about what the Bus answers after each of its operations
(spec/40_step_and_operands.md R130 to R133, spec/20_memory.md R61 to R87). -/
namespace Sys2Proof.Proofs
open Sys2Proof.Machine Sys2Proof.Terms

/-! ### Plain memory and steady addresses -/

theorem plain_iff {b : Bus} {a : Word} :
    b.plain a = true ↔ b.ram.holds a = true ∨ b.per.holds a = true ∧ b.per.isVram = true := by
  simp [Bus.plain]

theorem steady_iff {b : Bus} {a : Word} : b.steady a = true ↔ b.ram.holds a = true ∨ b.per.isVram = true := by
  simp [Bus.steady]

/-- What plain memory answers, only a write can change. -/
theorem steady_of_plain {b : Bus} {a : Word} (h : b.plain a = true) : b.steady a = true :=
  steady_iff.mpr ((plain_iff.mp h).imp_right And.right)

theorem isVram_iff {p : Peripheral} : p.isVram = true ↔ ∃ m, p.unit = .vram m := by
  unfold Peripheral.isVram
  cases p.unit <;> simp

/-- A well-formed VRAM_DEFAULT has its contents in canonical form. -/
theorem vram_canonical {p : Peripheral} {m : Memory} (hwf : p.wf = true) (hu : p.unit = .vram m) :
    m.wfIn p.start.toNat (p.start.toNat + p.size) = true := by
  simp only [Peripheral.wf, hu, Bool.and_eq_true] at hwf
  exact hwf.2

/-- VRAM_DEFAULT takes every write in its range (R69). -/
theorem peripheral_write_vram {p : Peripheral} {m : Memory} (hu : p.unit = .vram m) {a : Word}
    (ha : p.holds a = true) (v : Byte) : p.write a v = .ok { p with unit := .vram (m.write a.toNat v) } := by
  unfold Peripheral.write; rw [if_pos ha]; simp only [hu]

/-- Plain memory takes every write. -/
theorem write_of_plain {b : Bus} {a : Word} (h : b.plain a = true) (v : Byte) : ∃ b', b.write a v = .ok b' := by
  cases hr : b.ram.holds a with
  | true => exact ⟨_, bus_write_of_ram_ok (Ram.write_of_holds hr v)⟩
  | false =>
    rcases plain_iff.mp h with ram | ⟨per, vram⟩
    · rw [hr] at ram; cases ram
    · obtain ⟨m, hu⟩ := isVram_iff.mp vram
      exact ⟨_, bus_write_of_peripheral_ok (Ram.write_of_not_holds hr v) (peripheral_write_vram hu per v)⟩

/-! ### What a write and a catch-up leave -/

/-- A write leaves the kind of peripheral. -/
theorem peripheral_write_isVram {p p' : Peripheral} {a : Word} {v : Byte} (h : p.write a v = .ok p') :
    p'.isVram = p.isVram := by
  obtain ⟨-, ⟨m, hu, rfl⟩ | ⟨d, d', hu, -, rfl⟩⟩ := Peripheral.write_ok h <;> simp [Peripheral.isVram, hu]

theorem write_isVram {b b' : Bus} {a : Word} {v : Byte} (h : b.write a v = .ok b') :
    b'.per.isVram = b.per.isVram := by
  obtain ⟨-, rfl⟩ | ⟨-, p, hp, rfl⟩ := Bus.write_cases h
  · rfl
  · exact peripheral_write_isVram hp

/-- A write leaves RAM's range and the kind of peripheral, and with them which addresses are steady. -/
theorem write_steady {b b' : Bus} {a : Word} {v : Byte} (h : b.write a v = .ok b') (x : Word) :
    b'.steady x = b.steady x := by
  obtain ⟨ramStart, ramSize, -, -⟩ := Bus.write_params h
  simp only [Bus.steady, Ram.holds, ramStart, ramSize, write_isVram h]

@[simp] theorem catchup_isVram (p : Peripheral) (t : CycleTime) : (p.catchup t).isVram = p.isVram := by
  cases hu : p.unit <;> simp [Peripheral.catchup, Peripheral.isVram, hu]

/-- With VRAM_DEFAULT the catch-up changes nothing. -/
theorem catchup_of_vram {b : Bus} (h : b.per.isVram = true) (t : CycleTime) : b.catchup t = b := by
  obtain ⟨m, hu⟩ := isVram_iff.mp h
  unfold Bus.catchup
  rw [Peripheral.catchup_vram hu]

/-- The catch-up leaves what only a write can change. -/
theorem read_catchup {b : Bus} {x : Word} (h : b.steady x = true) (t : CycleTime) :
    (b.catchup t).read x = b.read x := by
  rcases steady_iff.mp h with ram | vram
  · rw [Bus.read_of_ram ram, Bus.read_of_ram (b := b.catchup t) ram]; rfl
  · rw [catchup_of_vram vram]

/-- R87: plain memory reads the byte written, in canonical form. -/
theorem read_write_same {b b' : Bus} {a : Word} {v : Byte} (hr : b.ram.wf = true) (hp : b.per.wf = true)
    (hw : b.write a v = .ok b') (plain : b.plain a = true) : b'.read a = .ok v := by
  obtain ⟨ram, rfl⟩ | ⟨notRam, p, hper, rfl⟩ := Bus.write_cases hw
  · exact bus_read_of_ram_ok (ram_read_write_same hr (Ram.write_of_holds ram v))
  · obtain ⟨holds, vram⟩ : b.per.holds a = true ∧ b.per.isVram = true := by
      simpa [notRam] using plain_iff.mp plain
    obtain ⟨m, hu⟩ := isVram_iff.mp vram
    obtain rfl : _ = p := Except.ok.inj ((peripheral_write_vram hu holds v).symm.trans hper)
    rw [Bus.read_of_not_ram (by exact notRam), Peripheral.read_vram rfl, if_pos (by exact holds),
      Memory.read_write_same (vram_canonical hp hu)]

/-- R87: what only a write can change, a write elsewhere leaves. -/
theorem read_write_other {b b' : Bus} {a x : Word} {v : Byte} (hw : b.write a v = .ok b') (hne : x ≠ a)
    (steady : b.steady x = true) : b'.read x = b.read x := by
  obtain ⟨ram, rfl⟩ | ⟨notRam, p, hper, rfl⟩ := Bus.write_cases hw
  · have same := ram_read_write_other (Ram.write_of_holds ram v) hne
    unfold Bus.read
    rw [same]
  · cases hx : b.ram.holds x with
    | true => rw [Bus.read_of_ram hx, Bus.read_of_ram (by exact hx)]
    | false =>
      have vram : b.per.isVram = true := by simpa [hx] using steady_iff.mp steady
      obtain ⟨m, hu⟩ := isVram_iff.mp vram
      obtain ⟨holds, -⟩ := Peripheral.write_ok hper
      obtain rfl : _ = p := Except.ok.inj ((peripheral_write_vram hu holds v).symm.trans hper)
      rw [Bus.read_of_not_ram hx, Bus.read_of_not_ram (by exact hx), Peripheral.read_vram hu, Peripheral.read_vram rfl,
        Memory.read_write_other _ _ (Word.toNat_ne hne)]
      rfl

/-! ### Another peripheral's reads -/

/-- R69: inside its range another peripheral answers as its free function does. -/
theorem peripheral_read_device {p : Peripheral} {d : Config.DeviceState} (hu : p.unit = .device d) {a : Word}
    (ha : p.holds a = true) : p.read a = (Config.deviceRead d a).elim (.error (.outOfBounds a)) .ok := by
  unfold Peripheral.read
  rw [if_pos ha]
  simp only [hu]
  cases Config.deviceRead d a <;> rfl

/-- R84: a read that it answers leaves the state its other free function gives (log 8). -/
theorem peripheral_afterRead_device {p : Peripheral} {d : Config.DeviceState} (hu : p.unit = .device d) {a : Word}
    (ha : p.holds a = true) :
    p.afterRead a =
      { p with unit := .device ((Config.deviceRead d a).elim d fun _ => Config.deviceAfterRead d a) } := by
  obtain ⟨start, size, unit⟩ := p
  subst hu
  unfold Peripheral.afterRead
  rw [if_pos ha]
  cases h : Config.deviceRead d a <;> simp [h]

/-! ### Snapshots -/

@[simp] theorem arrayBytes_length (start : Word) (size : Nat) (m : Memory) :
    (arrayBytes start size m).length = size := by
  simp [arrayBytes]

/-- D29: element `i` is the byte at `start + i`. -/
theorem arrayBytes_getD {start : Word} {size i : Nat} (m : Memory) (hi : i < size) (x : Byte) :
    (arrayBytes start size m).getD i x = m.read (start.toNat + i) := by
  simp [arrayBytes, List.getD_eq_getElem?_getD, hi]

/-- Inside a legal range, `start + i` does not wrap. -/
theorem toNat_start_add {start : Word} {size i : Nat} (h : rangeOk start size = true) (hi : i < size) :
    (start + BitVec.ofNat 16 i).toNat = start.toNat + i := by
  simp only [rangeOk, Bool.and_eq_true, decide_eq_true_eq] at h
  rw [BitVec.toNat_add, BitVec.toNat_ofNat]
  omega

/-- Every address `start + i` below the size is in range. -/
theorem inRange_start_add {start : Word} {size i : Nat} (h : rangeOk start size = true) (hi : i < size) :
    inRange start size (start + BitVec.ofNat 16 i) = true := by
  rw [inRange_iff, toNat_start_add h hi]
  omega

/-! ### The statements -/

/-- Settles O4: an accessor of the register's width reads or writes it by definition, with the frame that the rules of
the register file give, and the accessors of the other width raise. -/
theorem registerAccessorsCheckTheWidth : Obligations.RegisterAccessorsCheckTheWidth := by
  intro s
  refine ⟨fun r => ⟨rfl, rfl, fun _ => rfl, fun v => ?byte⟩, fun r => ⟨rfl, rfl, fun _ => rfl, fun w => ?word⟩⟩
  case byte =>
    exact ⟨s.set8 r v, rfl, s.get8_set8_same r v, ⟨fun _ hq => s.get8_set8_other v hq, s.set8_sp r v⟩,
      s.set8_pc r v, s.set8_bus r v⟩
  case word =>
    exact ⟨s.set16 r w, rfl, s.get16_set16_same r w, fun _ hq => s.get16_set16_other w hq, s.set16_bus r w⟩

/-- Settles O7: by the rules of the two devices inside and outside their ranges. -/
theorem unmappedFaultsAndOverlapIsRam : Obligations.UnmappedFaultsAndOverlapIsRam := by
  intro b a
  refine ⟨fun notRam notPer => ?unmapped, fun ram => ?overlap⟩
  case unmapped =>
    have perRead : b.per.read a = .error (.outOfBounds a) := by
      unfold Peripheral.read Peripheral.holds; simp [notPer]
    have perWrite (v : Byte) : b.per.write a v = .error (.outOfBounds a) := by
      unfold Peripheral.write Peripheral.holds; simp [notPer]
    exact ⟨(Bus.read_of_not_ram notRam).trans perRead,
      fun v => bus_write_of_peripheral_error (Ram.write_of_not_holds notRam v) (perWrite v)⟩
  case overlap =>
    refine ⟨(Bus.read_of_ram ram).trans (Ram.read_of_holds ram).symm, ⟨_, Bus.read_of_ram ram⟩, fun v => ?_⟩
    have taken := Ram.write_of_holds ram v
    exact ⟨_, bus_write_of_ram_ok taken, taken, rfl⟩

/-- Settles O8: by the laws of the Bus's faults, which hold for every peripheral. -/
theorem busFaultsCarryTheAddressOffered : Obligations.BusFaultsCarryTheAddressOffered :=
  fun _ _ _ => ⟨Bus.read_error, fun _ => Bus.write_error⟩

/-- Settles O9: at the address written (`read_write_same`) and at every other steady one (`read_write_other`). -/
theorem busReadsTheLatestWrite : Obligations.BusReadsTheLatestWrite :=
  fun _ _ _ _ hr hp hw => ⟨read_write_same hr hp hw, fun _ hne => read_write_other hw hne⟩

/-- Settles O10: both snapshots list `arrayBytes`, and a legal range holds every `start + i` without wrap. -/
theorem snapshotMirrorsTheDevice : Obligations.SnapshotMirrorsTheDevice := by
  intro s hwf
  simp only [State.wf, Ram.wf, Peripheral.wf, Bool.and_eq_true] at hwf
  obtain ⟨⟨⟨⟨ramRange, -⟩, perRange, -⟩, -⟩, -⟩ := hwf
  refine ⟨rfl, rfl, arrayBytes_length _ _ _, fun i hi => ?ram, fun vram => ?vram⟩
  case ram =>
    rw [Ram.read_of_holds (inRange_start_add ramRange hi), toNat_start_add ramRange hi]
    exact congrArg _ (arrayBytes_getD _ hi _).symm
  case vram =>
    obtain ⟨m, hu⟩ := isVram_iff.mp vram
    have listed : (copyOf s .peripheralMemory).1 = arrayBytes s.bus.per.start s.bus.per.size m := by
      simp only [copyOf, Bus.copyOf, Peripheral.snapshot, hu]
    rw [listed]
    refine ⟨arrayBytes_length _ _ _, fun i hi => ?_⟩
    rw [Peripheral.read_vram hu, if_pos (by exact inRange_start_add perRange hi), toNat_start_add perRange hi,
      arrayBytes_getD _ hi]

/-- Settles O11: the Bus forwards by definition; what the peripheral does with it goes by its kind. -/
theorem catchupReachesOnlyThePeripheral : Obligations.CatchupReachesOnlyThePeripheral := by
  intro b t
  refine ⟨rfl, rfl, fun m hu => catchup_of_vram (isVram_iff.mpr ⟨m, hu⟩) t, fun d hu => ?_⟩
  simp only [Bus.catchup_per, Peripheral.catchup, hu]

/-- Settles O12: what a read leaves (`Bus.afterRead`) and, at another peripheral's address, its two free functions. -/
theorem readsReachOnlyThePeripheral : Obligations.ReadsReachOnlyThePeripheral := by
  intro b a
  refine ⟨b.afterRead_ram a, b.afterRead_per_start a, b.afterRead_per_size a, fun _ => Bus.afterRead_of_error,
    Bus.afterRead_of_steady, fun d notRam per hu => ?_⟩
  rw [Bus.read_of_not_ram notRam, Bus.afterRead_of_not_ram notRam]
  rw [peripheral_read_device hu per, peripheral_afterRead_device hu per]
  cases Config.deviceRead d a <;> exact ⟨rfl, rfl⟩

end Sys2Proof.Proofs
end

section
/-! What the execute stage of a descriptor does before the step ends: its accesses in order and how it can stop, said
once for every descriptor (spec/40_step_and_operands.md R147 to R152), and the forms of the rows of the default table
(spec/30_encoding.md R112). -/
namespace Sys2Proof.Proofs
open Sys2Proof.Machine Sys2Proof.Terms

/-! ### Sequencing -/

theorem bind_assoc {α β γ : Type} (x : Traced α) (k : α → Traced β) (l : β → Traced γ) :
    (x.bind k).bind l = x.bind fun a => (k a).bind l := by
  cases hx : x.result with
  | error f => simp only [Traced.bind, hx]
  | ok a =>
    cases hk : (k a).result <;> simp only [Traced.bind, hx, hk, List.append_assoc]

/-- A sequence whose first part only reads, and answers a value. -/
theorem reads_bind {α β : Type} (as : List Word) (a : α) (k : α → Traced β) :
    (⟨as.map .read, .ok a⟩ : Traced α).bind k = ⟨as.map .read ++ (k a).events, (k a).result⟩ := rfl

theorem error_bind {α β : Type} (es : List BusEvent) (f : Fault) (k : α → Traced β) :
    (⟨es, .error f⟩ : Traced α).bind k = ⟨es, .error f⟩ := rfl

theorem bus_afterReads_append (b : Bus) (as as' : List Word) :
    b.afterReads (as ++ as') = (b.afterReads as).afterReads as' := by
  induction as generalizing b with
  | nil => rfl
  | cons x as ih => exact ih (b.afterRead x)

/-- Reads leave both ranges and the kind of peripheral, and with them which addresses are plain memory. -/
@[simp] theorem afterReads_plain (b : Bus) (as : List Word) (x : Word) : (b.afterReads as).plain x = b.plain x := by
  obtain ⟨ram, perStart, perSize, vram⟩ := b.afterReads_keeps as
  simp only [Bus.plain, Peripheral.holds, ram, perStart, perSize, vram]

@[simp] theorem afterReads_steady (b : Bus) (as : List Word) (x : Word) : (b.afterReads as).steady x = b.steady x := by
  obtain ⟨ram, -, -, vram⟩ := b.afterReads_keeps as
  simp only [Bus.steady, ram, vram]

/-- Everything a Bus write can do: be taken, or be rejected with its address. -/
theorem bus_write_total (b : Bus) (a : Word) (v : Byte) :
    (∃ b', b.write a v = .ok b') ∨ b.write a v = .error (.outOfBounds a) := by
  cases h : b.write a v with
  | ok b' => exact .inl ⟨b', rfl⟩
  | error f => exact .inr (by rw [Bus.write_error h])

theorem memWrite_of_ok {s : State} {a : Word} {v : Byte} {b : Bus} (h : s.bus.write a v = .ok b) :
    memWrite s a v = ⟨[.write a v], .ok { s with bus := b }⟩ := by
  unfold memWrite State.busWrite; rw [h]

theorem memWrite_of_error {s : State} {a : Word} {v : Byte} {f : Fault} (h : s.bus.write a v = .error f) :
    memWrite s a v = ⟨[.write a v], .error f⟩ := by
  unfold memWrite State.busWrite; rw [h]

/-! ### The execute stage, without the end of the step -/

/-- LD up to the end of the step (R175). -/
def ldStage (dst src : Operand) (s : State) : Traced State :=
  (resolve s src s.pc).bind fun v => (expectByte v.1 s.pc).bind fun b => storeByte v.2 dst b s.pc

/-- ADD up to the end of the step (R200). -/
def addStage (dst src : Operand) (s : State) : Traced State :=
  match dst with
  | .reg (.byte r) =>
    (resolve s src s.pc).bind fun v => (expectByte v.1 s.pc).bind fun b => .pure (v.2.add8 r (s.get8 r) b)
  | .reg (.word r) =>
    (resolve s src s.pc).bind fun v => (expectWord v.1 s.pc).bind fun w => .pure (v.2.add16 r (s.get16 r) w)
  | _ => .raise (.illegalInstruction s.pc)

/-- The execute stage of a descriptor, up to the end of the step (R147). -/
def execute (d : Descriptor) (s : State) : Traced State :=
  match d.kind with
  | .nop => .pure s
  | .ld => ldStage d.dst d.src s
  | .add => addStage d.dst d.src s
  | .invalid => .raise (.illegalInstruction s.pc)
  | .placeholder _ => .raise (.unimplemented s.pc)

theorem runLd_eq (dst src : Operand) (w c : Nat) (s : State) :
    runLd dst src w c s = (ldStage dst src s).bind (finish w c) := by
  simp only [runLd, ldStage, bind_assoc]

theorem runAdd_eq (dst src : Operand) (w c : Nat) (s : State) :
    runAdd dst src w c s = (addStage dst src s).bind (finish w c) := by
  cases dst with
  | reg r => cases r <;> simp only [runAdd, addStage, bind_assoc, Traced.pure_bind]
  | _ => rfl

/-- A descriptor runs its execute stage and then the end of the step. -/
theorem runDescriptor_eq (d : Descriptor) (s : State) :
    runDescriptor d s = (execute d s).bind (finish d.width d.cycles) := by
  unfold runDescriptor execute
  cases d.kind with
  | nop => rfl
  | ld => exact runLd_eq _ _ _ _ _
  | add => exact runAdd_eq _ _ _ _ _
  | invalid => rfl
  | placeholder k => rfl

theorem execute_nop {d : Descriptor} (h : d.kind = .nop) (s : State) : execute d s = .pure s := by
  unfold execute; rw [h]

theorem execute_ld {d : Descriptor} (h : d.kind = .ld) (s : State) : execute d s = ldStage d.dst d.src s := by
  unfold execute; rw [h]

theorem execute_add {d : Descriptor} (h : d.kind = .add) (s : State) : execute d s = addStage d.dst d.src s := by
  unfold execute; rw [h]

theorem execute_invalid {d : Descriptor} (h : d.kind = .invalid) (s : State) :
    execute d s = .raise (.illegalInstruction s.pc) := by
  unfold execute; rw [h]

theorem execute_placeholder {d : Descriptor} {k : PlaceholderKind} (h : d.kind = .placeholder k) (s : State) :
    execute d s = .raise (.unimplemented s.pc) := by
  unfold execute; rw [h]

/-- A store through a register makes one access, the write (R89). -/
theorem storeByte_deref (s : State) (p : RegName) (v : Byte) (ia : Word) :
    storeByte s (.deref p) v ia = memWrite s (s.pointer p) v := by
  simp only [storeByte, resolveAddr, Traced.pure_bind]

/-- A store at an offset immediate reads the offset byte and then writes (R139, R153). -/
theorem storeByte_offsetImm_ok {s : State} {n : Byte} {ia : Word} (h : s.bus.read (immAddr ia 1) = .ok n) (v : Byte) :
    storeByte s .offsetImm v ia =
      ⟨.read (immAddr ia 1) :: (memWrite (s.afterRead (immAddr ia 1)) (offsetAddr n) v).events,
        (memWrite (s.afterRead (immAddr ia 1)) (offsetAddr n) v).result⟩ := by
  have address : resolveAddr s .offsetImm ia = ⟨[.read (immAddr ia 1)], .ok (offsetAddr n, s.afterRead (immAddr ia 1))⟩ :=
    memRead_bind_ok h _
  simp only [storeByte, address]
  rfl

theorem storeByte_offsetImm_error {s : State} {f : Fault} {ia : Word} (h : s.bus.read (immAddr ia 1) = .error f)
    (v : Byte) : storeByte s .offsetImm v ia = ⟨[.read (immAddr ia 1)], .error f⟩ := by
  have address : resolveAddr s .offsetImm ia = ⟨[.read (immAddr ia 1)], .error f⟩ := memRead_bind_error h _
  simp only [storeByte, address, error_bind]

/-! ### Everything an execute stage can do -/

/-- The faults that execution itself raises, at the instruction address or for a register of the wrong width
(spec/60_exceptions.md R232 to R234). -/
def ownFault (s : State) (f : Fault) : Prop :=
  f = .illegalInstruction s.pc ∨ f = .unimplemented s.pc ∨ ∃ r w, f = .badRegisterAccess r w

theorem ownFault_illegal (s : State) : ownFault s (.illegalInstruction s.pc) := .inl rfl

theorem ownFault_unimplemented (s : State) : ownFault s (.unimplemented s.pc) := .inr (.inl rfl)

theorem ownFault_width (s : State) (r : RegName) (w : Width) : ownFault s (.badRegisterAccess r w) :=
  .inr (.inr ⟨r, w, rfl⟩)

/-- How the computation `x`, started on `s`, can go: it reads some addresses in order; then it is done, or stores one byte,
or has its last access rejected by the Bus, or raises a fault of its own. -/
inductive StageCase (s : State) (x : Traced State) : Prop where
  | done (as : List Word) (t : State)
      (leaves : t.bus = s.bus.afterReads as ∧ t.freqHz = s.freqHz ∧ t.notices = s.notices)
      (runs : x = ⟨as.map .read, .ok t⟩)
  | stored (as : List Word) (a : Word) (v : Byte) (b : Bus) (taken : (s.bus.afterReads as).write a v = .ok b)
      (runs : x = ⟨as.map .read ++ [.write a v], .ok { s with bus := b }⟩)
  | readRejected (as : List Word) (a : Word) (rejects : (s.bus.afterReads as).read a = .error (.outOfBounds a))
      (runs : x = ⟨as.map .read ++ [.read a], .error (.outOfBounds a)⟩)
  | writeRejected (as : List Word) (a : Word) (v : Byte)
      (rejects : (s.bus.afterReads as).write a v = .error (.outOfBounds a))
      (runs : x = ⟨as.map .read ++ [.write a v], .error (.outOfBounds a)⟩)
  | raised (as : List Word) (f : Fault) (own : ownFault s f) (runs : x = ⟨as.map .read, .error f⟩)

/-- A write after some reads. -/
theorem stageCase_write (s : State) (as : List Word) (a : Word) (v : Byte) :
    StageCase s ⟨as.map .read ++ (memWrite (s.afterReads as) a v).events, (memWrite (s.afterReads as) a v).result⟩ := by
  rcases bus_write_total (s.bus.afterReads as) a v with ⟨b, h⟩ | h
  · exact .stored as a v b h (by rw [memWrite_of_ok (s := s.afterReads as) h]; rfl)
  · exact .writeRejected as a v h (by rw [memWrite_of_error (s := s.afterReads as) h])

/-- What a store can do after the reads `as` of its source (R175). -/
theorem stageCase_store (s : State) (as : List Word) (dst : Operand) (v : Byte) :
    StageCase s ⟨as.map .read ++ (storeByte (s.afterReads as) dst v s.pc).events,
      (storeByte (s.afterReads as) dst v s.pc).result⟩ := by
  cases dst with
  | reg r =>
    cases r with
    | byte r =>
      exact .done as ((s.afterReads as).set8 r v) ⟨by simp, by simp, by simp⟩ (by simp [storeByte, State.setByte])
    | word r =>
      exact .raised as (.badRegisterAccess (.word r) .byte) (ownFault_width _ _ _) (by simp [storeByte, State.setByte])
  | deref p =>
    rw [storeByte_deref]
    exact stageCase_write s as _ v
  | offsetImm =>
    rcases (s.bus.afterReads as).read_total (immAddr s.pc 1) with ⟨n, h⟩ | h
    · rw [storeByte_offsetImm_ok (s := s.afterReads as) h]
      have write := stageCase_write s (as ++ [immAddr s.pc 1]) (offsetAddr n) v
      rw [show s.afterReads (as ++ [immAddr s.pc 1]) = (s.afterReads as).afterRead (immAddr s.pc 1) by
        simp only [State.afterReads, bus_afterReads_append]; rfl, List.map_append, List.append_assoc] at write
      exact write
    · rw [storeByte_offsetImm_error (s := s.afterReads as) h]
      exact .readRejected as _ h rfl
  | immByte => exact .raised as (.illegalInstruction s.pc) (ownFault_illegal s) (by simp [storeByte, resolveAddr])
  | immWord => exact .raised as (.illegalInstruction s.pc) (ownFault_illegal s) (by simp [storeByte, resolveAddr])
  | none => exact .raised as (.illegalInstruction s.pc) (ownFault_illegal s) (by simp [storeByte, resolveAddr])

/-- Resolving a source and going on: it is enough to know how it goes on after the reads that answered a value. -/
theorem stageCase_resolve (s : State) (src : Operand) (k : Value × State → Traced State)
    (goesOn : ∀ v as, StageCase s ⟨as.map .read ++ (k (v, s.afterReads as)).events, (k (v, s.afterReads as)).result⟩) :
    StageCase s ((resolve s src s.pc).bind k) := by
  rcases resolve_total s s.pc src with ⟨v, as, h⟩ | ⟨as, a, rejects, h⟩ | h
  · rw [h, reads_bind]
    exact goesOn v as
  · rw [h, error_bind]
    exact .readRejected as a rejects rfl
  · rw [h, error_bind]
    exact .raised [] _ (ownFault_illegal s) rfl

/-- Everything an execute stage can do. -/
theorem execute_cases (d : Descriptor) (s : State) : StageCase s (execute d s) := by
  cases hk : d.kind with
  | nop => rw [execute_nop hk]; exact .done [] s ⟨rfl, rfl, rfl⟩ rfl
  | invalid => rw [execute_invalid hk]; exact .raised [] _ (ownFault_illegal s) rfl
  | placeholder k => rw [execute_placeholder hk]; exact .raised [] _ (ownFault_unimplemented s) rfl
  | ld =>
    rw [execute_ld hk]
    refine stageCase_resolve s d.src _ fun v as => ?_
    cases v with
    | byte b => exact stageCase_store s as d.dst b
    | word w => exact .raised as (.illegalInstruction s.pc) (ownFault_illegal s) (by simp)
  | add =>
    rw [execute_add hk]
    cases hd : d.dst with
    | reg r =>
      cases r with
      | byte r =>
        refine stageCase_resolve s d.src _ fun v as => ?_
        cases v with
        | byte b =>
          exact .done as ((s.afterReads as).add8 r (s.get8 r) b)
            ⟨State.add8_bus _ _ _, State.add8_freqHz _ _ _, State.add8_notices _ _ _⟩ (by simp)
        | word w => exact .raised as (.illegalInstruction s.pc) (ownFault_illegal s) (by simp)
      | word r =>
        refine stageCase_resolve s d.src _ fun v as => ?_
        cases v with
        | byte b => exact .raised as (.illegalInstruction s.pc) (ownFault_illegal s) (by simp)
        | word w =>
          exact .done as ((s.afterReads as).add16 r (s.get16 r) w)
            ⟨State.add16_bus _ _ _, State.add16_freqHz _ _ _, State.add16_notices _ _ _⟩ (by simp)
    | _ => exact .raised [] _ (ownFault_illegal s) rfl

/-! ### The forms of the rows of the default table -/

/-- A source of one byte as the default table has them: a register other than F, a pointer register, an immediate byte or
an offset immediate. -/
def byteSource : Operand → Bool
  | .reg (.byte r) => r != .f
  | .deref p => p == .word .bc || p == .word .de || p == .word .hl || p == .byte .c
  | .immByte => true
  | .offsetImm => true
  | _ => false

/-- The forms of the rows of the default table (R112, R114, R170 to R188, R204 to R208, R220, R221). -/
inductive RowForm : Descriptor → Prop where
  | nop (w c : Nat) : RowForm ⟨.nop, .none, .none, w, c⟩
  | load {r : Reg8} {o : Operand} (w c : Nat) (hr : r ≠ .f) (ho : byteSource o = true) :
      RowForm ⟨.ld, .reg (.byte r), o, w, c⟩
  | store {p : RegName} {r : Reg8} (w c : Nat) (hp : byteSource (.deref p) = true) (hr : r ≠ .f) :
      RowForm ⟨.ld, .deref p, .reg (.byte r), w, c⟩
  | storeImmediate (w c : Nat) : RowForm ⟨.ld, .deref (.word .hl), .immByte, w, c⟩
  | storeHigh (w c : Nat) : RowForm ⟨.ld, .offsetImm, .reg (.byte .a), w, c⟩
  | loadWord {r : Reg16} (w c : Nat) (hr : r ≠ .af) : RowForm ⟨.ld, .reg (.word r), .immWord, w, c⟩
  | loadSp (w c : Nat) : RowForm ⟨.ld, .reg (.word .sp), .reg (.word .hl), w, c⟩
  | addByte {o : Operand} (w c : Nat) (ho : byteSource o = true) : RowForm ⟨.add, .reg (.byte .a), o, w, c⟩
  | addPair {q : Reg16} (w c : Nat) (hq : q ≠ .af) : RowForm ⟨.add, .reg (.word .hl), .reg (.word q), w, c⟩
  | addSp (w c : Nat) : RowForm ⟨.add, .reg (.word .sp), .immByte, w, c⟩
  | invalid (w c : Nat) : RowForm ⟨.invalid, .none, .none, w, c⟩
  | placeholder (k : PlaceholderKind) (w c : Nat) : RowForm ⟨.placeholder k, .none, .none, w, c⟩

/-- Every row of the default table has one of the forms. -/
theorem rowForm (i : Instr) : RowForm (descriptorOf i) := by
  cases i <;> constructor <;> decide

end Sys2Proof.Proofs
end

section
/-! What a step of the default table that answers a next state has done, said once, and the invariants of the whole machine
that follow (spec/10_state.md R34 to R43, spec/40_step_and_operands.md R148, spec/70_reset_and_hazards.md R273). -/
namespace Sys2Proof.Proofs
open Sys2Proof.Machine Sys2Proof.Terms

/-! ### The Bus that the accesses of a step leave -/

/-- `b'` is what some reads of `b`, and then at most one write, leave. -/
def accessed (b b' : Bus) : Prop :=
  ∃ as, b' = b.afterReads as ∨ ∃ a v, (b.afterReads as).write a v = .ok b'

theorem accessed_wf {b b' : Bus} (h : accessed b b') (hr : b.ram.wf = true) (hp : b.per.wf = true) :
    b'.ram.wf = true ∧ b'.per.wf = true := by
  obtain ⟨as, rfl | ⟨a, v, hw⟩⟩ := h
  · exact Bus.wf_afterReads hr hp as
  · obtain ⟨hr', hp'⟩ := Bus.wf_afterReads hr hp as
    exact Bus.wf_write hr' hp' hw

/-- Accesses leave both ranges. -/
theorem accessed_params {b b' : Bus} (h : accessed b b') :
    b'.ram.start = b.ram.start ∧ b'.ram.size = b.ram.size ∧ b'.per.start = b.per.start ∧ b'.per.size = b.per.size := by
  obtain ⟨as, rfl | ⟨a, v, hw⟩⟩ := h <;> obtain ⟨ram, perStart, perSize, -⟩ := b.afterReads_keeps as
  · exact ⟨congrArg _ ram, congrArg _ ram, perStart, perSize⟩
  · obtain ⟨h1, h2, h3, h4⟩ := Bus.write_params hw
    exact ⟨h1.trans (congrArg _ ram), h2.trans (congrArg _ ram), h3.trans perStart, h4.trans perSize⟩

theorem accessed_isVram {b b' : Bus} (h : accessed b b') : b'.per.isVram = b.per.isVram := by
  obtain ⟨as, rfl | ⟨a, v, hw⟩⟩ := h <;> obtain ⟨-, -, -, vram⟩ := b.afterReads_keeps as
  · exact vram
  · exact (write_isVram hw).trans vram

/-! ### What the default table says of a destination -/

theorem rowForm_dst_ne_f {d : Descriptor} (h : RowForm d) {r : Reg8} (hd : d.dst = .reg (.byte r)) : r ≠ .f := by
  cases h with
  | load w c hr ho => cases hd; exact hr
  | addByte w c ho => cases hd; decide
  | _ => cases hd

/-- An ADD to a pair has HL as its destination, or is ADD SP,e8. -/
theorem rowForm_add_pair {d : Descriptor} (h : RowForm d) (hk : d.kind = .add) {r : Reg16}
    (hd : d.dst = .reg (.word r)) : r = .hl ∨ d.src = .immByte := by
  cases h with
  | addPair w c hq => cases hd; exact .inl rfl
  | addSp w c => exact .inr rfl
  | loadWord w c hr => cases hk
  | loadSp w c => cases hk
  | _ => cases hd

/-! ### What a successful step has done -/

/-- What the execution of a row of the default table does to the registers of `s`, up to the end of the step. -/
inductive RegisterEffect (d : Descriptor) (s : State) : State → Prop where
  | kept (notAdd : d.kind ≠ .add) : RegisterEffect d s s
  | loaded (notAdd : d.kind ≠ .add) {r : Reg8} (notF : r ≠ .f) (v : Byte) : RegisterEffect d s (s.set8 r v)
  | addedByte (isAdd : d.kind = .add) {r : Reg8} (notF : r ≠ .f) (v : Byte) : RegisterEffect d s (s.add8 r (s.get8 r) v)
  | addedPair (isAdd : d.kind = .add) (w : Word) : RegisterEffect d s (s.add16 .hl s.hl w)

/-- A row of the default table that answers a next state: its accesses left some Bus, it had one of the register effects
on the machine with that Bus, and the step ended. -/
theorem runDescriptor_effect {d : Descriptor} {s t : State} (row : RowForm d) (h : (runDescriptor d s).result = .ok t) :
    ∃ b u, accessed s.bus b ∧ RegisterEffect d { s with bus := b } u ∧ t = u.conclude d.width d.cycles := by
  have reads (as : List Word) : accessed s.bus (s.bus.afterReads as) := ⟨as, .inl rfl⟩
  rcases runDescriptor_ok h with ⟨hk, rfl⟩ | ⟨hk, r, v, as, hd, -, rfl⟩ | ⟨hk, v, as, a, as', b, -, -, hw, rfl⟩ |
    ⟨hk, r, v, as, hd, -, rfl⟩ | ⟨hk, r, v, as, hd, source, rfl⟩
  · exact ⟨_, _, reads [], .kept (by simp [hk]), rfl⟩
  · exact ⟨_, _, reads as, .loaded (by simp [hk]) (rowForm_dst_ne_f row hd) v, rfl⟩
  · exact ⟨b, _, ⟨as ++ as', .inr ⟨a, v, bus_afterReads_append s.bus as as' ▸ hw⟩⟩, .kept (by simp [hk]), rfl⟩
  · rw [← State.afterReads_get8 s as]
    exact ⟨_, _, reads as, .addedByte hk (rowForm_dst_ne_f row hd) v, rfl⟩
  · rcases rowForm_add_pair row hk hd with rfl | immediate
    · exact ⟨_, _, reads as, .addedPair hk v, rfl⟩
    · rw [immediate] at source
      rcases resolve_word s s.pc source with ⟨q, register⟩ | word
      · cases register
      · cases word

/-- A step that answers a next state fetched an opcode byte and ran the row that it selects. -/
theorem step_effect {s t : State} (h : step s = .next t) :
    ∃ op b u, s.bus.read s.pc = .ok op ∧ accessed s.bus b ∧
      RegisterEffect (descriptorOf (decodeOpcode op)) { s with bus := b } u ∧
      t = u.conclude (descriptorOf (decodeOpcode op)).width (descriptorOf (decodeOpcode op)).cycles := by
  obtain ⟨op, fetched, runs⟩ := step_next h
  obtain ⟨b, u, ⟨as, access⟩, effect, ends⟩ := runDescriptor_effect (rowForm _) runs
  exact ⟨op, b, u, fetched, ⟨s.pc :: as, access⟩, effect, ends⟩

/-- A bit of F outside the flag positions is not at a flag's place in AF. -/
theorem ne_index_of_unused {p : FlagBits} {k : Fin 8} (unused : ∀ g, p.pos g ≠ k) (g : Flag) :
    k.val ≠ (p.index g).val := fun e => unused g (Fin.ext e.symm)

section Effect

variable {d : Descriptor} {s u : State} (h : RegisterEffect d s u)

include h

theorem effect_pc : u.pc = s.pc := by
  cases h with
  | kept | loaded => simp
  | addedByte _ notF v => exact State.add8_pc _ _ _
  | addedPair _ w => exact State.add16_other s (q := .pc) _ _ (by decide) (by decide)

theorem effect_sp : u.sp = s.sp := by
  cases h with
  | kept | loaded => simp
  | addedByte _ notF v => exact State.add8_sp _ _ _
  | addedPair _ w => exact State.add16_other s (q := .sp) _ _ (by decide) (by decide)

/-- An effect on the registers leaves the Bus, the parameters and the outputs recorded. -/
theorem effect_rest : u.bus = s.bus ∧ u.freqHz = s.freqHz ∧ u.flagBits = s.flagBits ∧ u.intHook = s.intHook ∧
    u.notices = s.notices := by
  cases h with
  | kept | loaded => simp
  | addedByte _ notF v =>
    simp [State.add8_bus, State.add8_freqHz, State.add8_flagBits, State.add8_intHook, State.add8_notices]
  | addedPair _ w =>
    simp [State.add16_bus, State.add16_freqHz, State.add16_flagBits, State.add16_intHook, State.add16_notices]

/-- Only an ADD writes F. -/
theorem effect_f (notAdd : d.kind ≠ .add) : u.get8 .f = s.get8 .f := by
  cases h with
  | kept => rfl
  | loaded _ notF v => exact s.get8_set8_other v notF.symm
  | addedByte isAdd => exact absurd isAdd notAdd
  | addedPair isAdd => exact absurd isAdd notAdd

/-- A bit of F that is no flag is left. -/
theorem effect_unused {k : Nat} (hk : k < 8) (unused : ∀ g, k ≠ (s.flagBits.index g).val) :
    u.af.getLsbD k = s.af.getLsbD k := by
  cases h with
  | kept => rfl
  | loaded _ notF v => exact s.set8_low_bit v notF hk
  | addedByte _ notF v => exact s.add8_unused _ _ notF hk unused
  | addedPair _ w => exact s.add16_unused _ _ (by decide) unused

/-- D4: Z, once set, stays set. -/
theorem effect_zero (distinct : s.flagBits.distinct = true) (zero : s.flag .z = true) : u.flag .z = true := by
  cases h with
  | kept => exact zero
  | loaded _ notF v =>
    rw [State.flag_eq, s.set8_flagBits, s.set8_low_bit v notF (FlagBits.index_lt _ _)]
    exact zero
  | addedByte _ notF v =>
    obtain ⟨-, -, -, z⟩ := s.add8_flags (s.get8 _) v distinct notF
    rw [z, zero, Bool.true_or]
  | addedPair _ w =>
    obtain ⟨-, -, -, z⟩ := s.add16_flags (r := .hl) s.hl w distinct (by decide)
    rw [z, zero, Bool.true_or]

end Effect

/-! ### The statements -/

/-- Settles O41: the accesses keep both devices well formed, the register effect leaves the rest, and the catch-up keeps
the peripheral well formed. -/
theorem stepKeepsTheMachineWellFormed : Obligations.StepKeepsTheMachineWellFormed := by
  intro s t hwf hstep
  obtain ⟨op, b, u, -, access, effect, rfl⟩ := step_effect hstep
  obtain ⟨bus, freq, flagBits, -, -⟩ := effect_rest effect
  simp only [State.wf, Bool.and_eq_true, decide_eq_true_eq] at hwf ⊢
  obtain ⟨⟨⟨ram, per⟩, distinct⟩, frequency⟩ := hwf
  obtain ⟨ram', per'⟩ := accessed_wf access ram per
  simp only [State.conclude_bus, Bus.catchup_ram, Bus.catchup_per, State.conclude_flagBits, State.conclude_freqHz, bus,
    freq, flagBits]
  exact ⟨⟨⟨ram', Peripheral.wf_catchup per' _⟩, distinct⟩, frequency⟩

/-- Settles O47: no register effect clears Z (`effect_zero`), and the end of the step leaves the flags. -/
theorem noStepClearsZero : Obligations.NoStepClearsZero := by
  intro s t distinct hstep zero
  obtain ⟨op, b, u, -, -, effect, rfl⟩ := step_effect hstep
  rw [State.conclude_flag]
  exact effect_zero effect distinct zero

/-- Settles O44: neither the accesses, nor the register effect, nor the catch-up touches a parameter. -/
theorem parametersNeverChange : Obligations.ParametersNeverChange := by
  intro s t hstep
  obtain ⟨op, b, u, -, access, effect, rfl⟩ := step_effect hstep
  obtain ⟨bus, freq, flagBits, intHook, -⟩ := effect_rest effect
  obtain ⟨ramStart, ramSize, perStart, perSize⟩ := accessed_params access
  have vram := accessed_isVram access
  simp [paramsKept, bus, freq, flagBits, intHook, ramStart, ramSize, perStart, perSize, vram]

/-- R110 (b): the width of every row. -/
theorem width_cases (i : Instr) :
    (descriptorOf i).width = 1 ∨ (descriptorOf i).width = 2 ∨ (descriptorOf i).width = 3 := by
  have h := instr_wf i
  simp only [Instr.wf, Descriptor.wf, Descriptor.widthOk, Bool.and_eq_true, Bool.or_eq_true, beq_iff_eq] at h
  omega

/-- Settles O45: no register effect writes PC, so that the end of the step adds the width to the old one. -/
theorem stepAdvancesPcByTheWidth : Obligations.StepAdvancesPcByTheWidth := by
  intro s t hstep
  obtain ⟨op, b, u, fetched, -, effect, rfl⟩ := step_effect hstep
  have pc := effect_pc effect
  exact ⟨op, fetched, by rw [State.conclude_pc, pc], width_cases (decodeOpcode op)⟩

/-- Settles O46: no register effect writes SP. -/
theorem noStepWritesSp : Obligations.NoStepWritesSp := by
  intro s t hstep
  obtain ⟨op, b, u, -, -, effect, rfl⟩ := step_effect hstep
  exact (effect_sp effect).trans rfl

/-- Settles O48: the register effects leave the unused bits of F (`effect_unused`), and all of F but for an ADD
(`effect_f`). -/
theorem onlyAddWritesF : Obligations.OnlyAddWritesF := by
  intro s t hstep
  obtain ⟨op, b, u, fetched, -, effect, rfl⟩ := step_effect hstep
  refine ⟨fun k unused => ?unused, fun op' fetched' notAdd => ?notAdd⟩
  case unused =>
    rw [State.conclude_get8]
    simp only [State.get8, getLsbD_getLow, effect_unused effect k.isLt (ne_index_of_unused unused)]
  case notAdd =>
    obtain rfl : op = op' := Except.ok.inj (fetched.symm.trans fetched')
    have f := effect_f effect notAdd
    rw [State.conclude_get8, f]
    rfl

end Sys2Proof.Proofs
end

section
/-! What no step reads: F, the clock frequency and the notifications recorded. One relational argument for all of them: a
relation on machines that the reads and the writes of an execution do not tell apart is kept up to the end of the step
(spec/10_state.md R36, spec/70_reset_and_hazards.md R277, R278). -/
namespace Sys2Proof.Proofs
open Sys2Proof.Machine Sys2Proof.Terms

/-! ### Results that agree -/

/-- Both answer, with related values, or both raise the same fault. -/
def agree {α β : Type} (Q : α → β → Prop) (x : Except Fault α) (y : Except Fault β) : Prop :=
  (∃ a b, x = .ok a ∧ y = .ok b ∧ Q a b) ∨ ∃ f, x = .error f ∧ y = .error f

theorem agree_ok {α β : Type} {Q : α → β → Prop} {a : α} {b : β} (h : Q a b) : agree Q (.ok a) (.ok b) :=
  .inl ⟨a, b, rfl, rfl, h⟩

theorem agree_error {α β : Type} {Q : α → β → Prop} (f : Fault) : agree Q (.error f) (.error f) :=
  .inr ⟨f, rfl, rfl⟩

/-- Sequences agree when their first parts do and related values go on to agree. -/
theorem agree_bind {α α' β β' : Type} {P : α → α' → Prop} {Q : β → β' → Prop} {x : Traced α} {x' : Traced α'}
    {k : α → Traced β} {k' : α' → Traced β'} (first : agree P x.result x'.result)
    (rest : ∀ a a', P a a' → agree Q (k a).result (k' a').result) : agree Q (x.bind k).result (x'.bind k').result := by
  obtain ⟨a, a', hx, hx', ha⟩ | ⟨f, hx, hx'⟩ := first
  · rw [Traced.bind_of_ok hx, Traced.bind_of_ok hx']
    exact rest a a' ha
  · rw [Traced.bind_of_error hx, Traced.bind_of_error hx']
    exact agree_error f

/-- One computation agrees with itself. -/
theorem agree_refl {α : Type} (x : Except Fault α) : agree Eq x x := by
  cases x with
  | ok a => exact agree_ok rfl
  | error f => exact agree_error f

/-! ### Relations that an execution does not tell apart -/

/-- The register names that read F. -/
def seesF : RegName → Bool
  | .byte .f => true
  | .word .af => true
  | _ => false

/-- The operands that read F. -/
def operandSeesF : Operand → Bool
  | .reg r => seesF r
  | .deref r => seesF r
  | _ => false

/-- Related machines read alike, but for F, and every write of an execution stage keeps the relation. -/
structure Unread (R : State → State → Prop) : Prop where
  pc {s s' : State} : R s s' → s'.pc = s.pc
  bus {s s' : State} : R s s' → s'.bus = s.bus
  get8 {s s' : State} {r : Reg8} : R s s' → seesF (.byte r) = false → s'.get8 r = s.get8 r
  get16 {s s' : State} {r : Reg16} : R s s' → seesF (.word r) = false → s'.get16 r = s.get16 r
  withBus {s s' : State} (b : Bus) : R s s' → R { s with bus := b } { s' with bus := b }
  setFlag {s s' : State} (g : Flag) (v : Bool) : R s s' → R (s.setFlag g v) (s'.setFlag g v)
  set8 {s s' : State} {r : Reg8} (v : Byte) : R s s' → seesF (.byte r) = false → R (s.set8 r v) (s'.set8 r v)
  set16 {s s' : State} {r : Reg16} (w : Word) : R s s' → seesF (.word r) = false → R (s.set16 r w) (s'.set16 r w)

/-- Equal values, with related machines that the reads have left. -/
def sameValue {α : Type} (R : State → State → Prop) (x x' : α × State) : Prop := x.1 = x'.1 ∧ R x.2 x'.2

section Unread

variable {R : State → State → Prop} (hR : Unread R) {s s' : State} (h : R s s')

include hR h

theorem unread_raiseFlag (g : Flag) (p : Bool) : R (s.raiseFlag g p) (s'.raiseFlag g p) := by
  cases p with
  | false => exact h
  | true => exact hR.setFlag g true h

theorem unread_clearHCN : R s.clearHCN s'.clearHCN :=
  hR.setFlag .n false (hR.setFlag .c false (hR.setFlag .h false h))

theorem unread_add8 {r : Reg8} (hr : seesF (.byte r) = false) (a b : Byte) : R (s.add8 r a b) (s'.add8 r a b) := by
  have sum := hR.set8 (a + b) (unread_raiseFlag hR (unread_raiseFlag hR (unread_clearHCN hR h) .h (halfCarry8 a b)) .c
    (carry8 a b)) hr
  unfold State.add8
  simp only [hR.get8 sum hr]
  exact unread_raiseFlag hR sum .z _

theorem unread_add16 {r : Reg16} (hr : seesF (.word r) = false) (a b : Word) : R (s.add16 r a b) (s'.add16 r a b) := by
  have sum := hR.set16 (a + b) (unread_raiseFlag hR (unread_raiseFlag hR (unread_clearHCN hR h) .h (halfCarry16 a b)) .c
    (carry16 a b)) hr
  unfold State.add16
  simp only [hR.get16 sum hr]
  exact unread_raiseFlag hR sum .z _

theorem unread_memRead (a : Word) : agree (sameValue R) (memRead s a).result (memRead s' a).result := by
  simp only [memRead_result, State.busRead, State.afterRead, hR.bus h]
  cases s.bus.read a with
  | ok v => exact agree_ok ⟨rfl, hR.withBus _ h⟩
  | error f => exact agree_error f

theorem unread_memWrite (a : Word) (v : Byte) : agree R (memWrite s a v).result (memWrite s' a v).result := by
  simp only [memWrite_result, State.busWrite, hR.bus h]
  cases s.bus.write a v with
  | ok b => exact agree_ok (hR.withBus b h)
  | error f => exact agree_error f

theorem unread_pointer {p : RegName} (hp : seesF p = false) : s'.pointer p = s.pointer p := by
  cases p with
  | byte r => exact congrArg zext16 (hR.get8 h hp)
  | word r => exact hR.get16 h hp

theorem unread_resolve {o : Operand} (ho : operandSeesF o = false) (ia : Word) :
    agree (sameValue R) (resolve s o ia).result (resolve s' o ia).result := by
  cases o with
  | reg r =>
    cases r with
    | byte r => exact agree_ok ⟨congrArg Value.byte (hR.get8 h ho).symm, h⟩
    | word r => exact agree_ok ⟨congrArg Value.word (hR.get16 h ho).symm, h⟩
  | deref r =>
    simp only [resolve, unread_pointer hR h ho]
    exact agree_bind (unread_memRead hR h _) fun x x' hx => agree_ok ⟨congrArg Value.byte hx.1, hx.2⟩
  | immByte => exact agree_bind (unread_memRead hR h _) fun x x' hx => agree_ok ⟨congrArg Value.byte hx.1, hx.2⟩
  | offsetImm =>
    refine agree_bind (unread_memRead hR h _) fun n n' hn => ?_
    rw [← hn.1]
    exact agree_bind (unread_memRead hR hn.2 _) fun x x' hx => agree_ok ⟨congrArg Value.byte hx.1, hx.2⟩
  | immWord =>
    refine agree_bind (unread_memRead hR h _) fun n n' hn => ?_
    rw [← hn.1]
    exact agree_bind (unread_memRead hR hn.2 _) fun x x' hx => agree_ok ⟨congrArg (Value.word ∘ wordOf n.1) hx.1, hx.2⟩
  | none => exact agree_error _

theorem unread_storeByte {dst : Operand} (hd : operandSeesF dst = false) (v : Byte) (ia : Word) :
    agree R (storeByte s dst v ia).result (storeByte s' dst v ia).result := by
  cases dst with
  | reg r =>
    cases r with
    | byte r => exact agree_ok (hR.set8 v h hd)
    | word r => exact agree_error _
  | deref p =>
    rw [storeByte_deref, storeByte_deref, unread_pointer hR h hd]
    exact unread_memWrite hR h _ v
  | offsetImm =>
    have address : agree (sameValue R) (resolveAddr s .offsetImm ia).result (resolveAddr s' .offsetImm ia).result :=
      agree_bind (unread_memRead hR h _) fun x x' hx => agree_ok ⟨congrArg offsetAddr hx.1, hx.2⟩
    refine agree_bind address fun a a' ha => ?_
    rw [← ha.1]
    exact unread_memWrite hR ha.2 _ v
  | immByte => exact agree_error _
  | immWord => exact agree_error _
  | none => exact agree_error _

/-- The execute stage of a descriptor whose operands do not read F keeps the relation, or faults alike. -/
theorem unread_execute {d : Descriptor} (hd : operandSeesF d.dst = false) (hs : operandSeesF d.src = false) :
    agree R (execute d s).result (execute d s').result := by
  have pc := hR.pc h
  have source := unread_resolve hR h hs s.pc
  cases hk : d.kind with
  | nop => rw [execute_nop hk, execute_nop hk]; exact agree_ok h
  | invalid => rw [execute_invalid hk, execute_invalid hk, pc]; exact agree_error _
  | placeholder k => rw [execute_placeholder hk, execute_placeholder hk, pc]; exact agree_error _
  | ld =>
    rw [execute_ld hk, execute_ld hk]
    simp only [ldStage, pc]
    refine agree_bind source fun x x' hx => ?_
    rw [← hx.1]
    refine agree_bind (agree_refl _) fun b b' hb => ?_
    rw [← hb]
    exact unread_storeByte hR hx.2 hd b s.pc
  | add =>
    rw [execute_add hk, execute_add hk]
    cases hdst : d.dst with
    | reg r =>
      rw [hdst] at hd
      cases r with
      | byte r =>
        simp only [addStage, pc]
        refine agree_bind source fun x x' hx => ?_
        rw [← hx.1]
        refine agree_bind (agree_refl _) fun b b' hb => ?_
        rw [← hb, hR.get8 h hd]
        exact agree_ok (unread_add8 hR hx.2 hd _ b)
      | word r =>
        simp only [addStage, pc]
        refine agree_bind source fun x x' hx => ?_
        rw [← hx.1]
        refine agree_bind (agree_refl _) fun b b' hb => ?_
        rw [← hb, hR.get16 h hd]
        exact agree_ok (unread_add16 hR hx.2 hd _ b)
    | _ => simp only [addStage, pc]; exact agree_error _

end Unread

theorem byteSource_not_seesF {o : Operand} (h : byteSource o = true) : operandSeesF o = false := by
  cases o with
  | reg r =>
    cases r with
    | byte r => revert h; cases r <;> decide
    | word r => cases h
  | deref r =>
    revert h
    cases r with
    | byte r => cases r <;> decide
    | word r => cases r <;> decide
  | _ => rfl

/-- R36: no row of the default table has an operand that reads F. -/
theorem rowForm_not_seesF {d : Descriptor} (h : RowForm d) :
    operandSeesF d.dst = false ∧ operandSeesF d.src = false := by
  have reg8 {r : Reg8} (hr : r ≠ .f) : operandSeesF (.reg (.byte r)) = false :=
    byteSource_not_seesF (by simpa [byteSource] using hr)
  have word {r : Reg16} (hr : r ≠ .af) : operandSeesF (.reg (.word r)) = false := by
    revert hr
    cases r <;> decide
  cases h with
  | load w c hr ho => exact ⟨reg8 hr, byteSource_not_seesF ho⟩
  | store w c hp hr => exact ⟨byteSource_not_seesF hp, reg8 hr⟩
  | addByte w c ho => exact ⟨rfl, byteSource_not_seesF ho⟩
  | addPair w c hq => exact ⟨rfl, word hq⟩
  | loadWord w c hr => exact ⟨word hr, rfl⟩
  | _ => exact ⟨rfl, rfl⟩

/-- Steps of related machines: both end, with related machines before the end, or both fault alike. -/
theorem unread_step {R : State → State → Prop} (hR : Unread R) {s s' : State} (h : R s s') :
    (∃ u u' w c, R u u' ∧ step s = .next (u.conclude w c) ∧ step s' = .next (u'.conclude w c)) ∨
      ∃ f, step s = .fault f ∧ step s' = .fault f := by
  have fetch' : s'.bus.read s'.pc = s.bus.read s.pc := by rw [hR.pc h, hR.bus h]
  cases fetched : s.bus.read s.pc with
  | error f => exact .inr ⟨f, step_of_read_error fetched, step_of_read_error (fetch'.trans fetched)⟩
  | ok op =>
    have after : R (s.afterRead s.pc) (s'.afterRead s'.pc) := by
      have same : s'.bus.afterRead s'.pc = s.bus.afterRead s.pc := by rw [hR.pc h, hR.bus h]
      unfold State.afterRead
      rw [same]
      exact hR.withBus _ h
    obtain ⟨hd, hs⟩ := rowForm_not_seesF (rowForm (decodeOpcode op))
    rw [step_of_read fetched, step_of_read (fetch'.trans fetched), exec_eq_runDescriptor, exec_eq_runDescriptor,
      runDescriptor_eq, runDescriptor_eq]
    simp only [deliver_next, deliver_fault, Traced.bind_result_ok, Traced.bind_result_error]
    obtain ⟨u, u', hu, hu', related⟩ | ⟨f, hf, hf'⟩ := unread_execute hR after hd hs
    · exact .inl ⟨u, u', _, _, related, ⟨u, hu, rfl⟩, ⟨u', hu', rfl⟩⟩
    · exact .inr ⟨f, .inl hf, .inl hf'⟩

/-! ### Machines that differ only in F -/

/-- The machines differ at most in F. -/
def differInF (s s' : State) : Prop := ∃ w, getHigh w = getHigh s.af ∧ s' = { s with af := w }

theorem differInF_set8_f (s : State) (x : Byte) : differInF s (s.set8 .f x) :=
  ⟨setLow s.af x, getHigh_setLow _ _, rfl⟩

theorem unread_differInF : Unread differInF where
  pc := by rintro s _ ⟨w, -, rfl⟩; rfl
  bus := by rintro s _ ⟨w, -, rfl⟩; rfl
  get8 := by
    rintro s _ r ⟨w, same, rfl⟩ hr
    cases r with
    | a => exact same
    | f => cases hr
    | _ => rfl
  get16 := by
    rintro s _ r ⟨w, -, rfl⟩ hr
    cases r with
    | af => cases hr
    | _ => rfl
  withBus := by rintro s _ b ⟨w, same, rfl⟩; exact ⟨w, same, rfl⟩
  setFlag := by
    rintro s _ g v ⟨w, same, rfl⟩
    refine ⟨_, ?_, rfl⟩
    rw [State.setFlag_high s]
    exact (State.setFlag_high { s with af := w } g v).trans same
  set8 := by
    rintro s _ r v ⟨w, same, rfl⟩ hr
    cases r with
    | a => exact ⟨setHigh w v, by simp, rfl⟩
    | f => cases hr
    | _ => exact ⟨w, same, rfl⟩
  set16 := by
    rintro s _ r v ⟨w, same, rfl⟩ hr
    cases r with
    | af => cases hr
    | _ => exact ⟨w, same, rfl⟩

/-- The end of a step does not tell F. -/
theorem forgetFlags_conclude {s s' : State} (h : differInF s s') (w c : Nat) :
    forgetFlags (s.conclude w c) = forgetFlags (s'.conclude w c) := by
  obtain ⟨x, same, rfl⟩ := h
  have erased : setLow x 0#8 = setLow s.af 0#8 := congrArg (wordOf · 0#8) same
  simp only [forgetFlags, State.set8, State.conclude_af, erased]
  rfl

/-- Settles O54: `differInF` is kept by everything an execution stage does (`unread_step`), and the end of the step and
erasing F leave equal machines. -/
theorem flagsAreNeverRead : Obligations.FlagsAreNeverRead := by
  intro s x
  obtain ⟨u, u', w, c, related, hs, hs'⟩ | fault := unread_step unread_differInF (differInF_set8_f s x)
  · exact .inl ⟨_, _, hs, hs', forgetFlags_conclude related w c⟩
  · exact .inr fault

/-! ### Machines that differ only in the clock -/

theorem sameButClock_iff {s s' : State} :
    sameButClock s s' ↔ ∃ f ns, s' = { s with freqHz := f, notices := ns } :=
  ⟨fun h => ⟨_, _, h⟩, by rintro ⟨f, ns, rfl⟩; rfl⟩

theorem unread_sameButClock : Unread sameButClock where
  pc h := by obtain ⟨f, ns, rfl⟩ := sameButClock_iff.mp h; rfl
  bus h := by obtain ⟨f, ns, rfl⟩ := sameButClock_iff.mp h; rfl
  get8 {s s' r} h _ := by obtain ⟨f, ns, rfl⟩ := sameButClock_iff.mp h; cases r <;> rfl
  get16 {s s' r} h _ := by obtain ⟨f, ns, rfl⟩ := sameButClock_iff.mp h; cases r <;> rfl
  withBus b h := by obtain ⟨f, ns, rfl⟩ := sameButClock_iff.mp h; exact rfl
  setFlag g v h := by obtain ⟨f, ns, rfl⟩ := sameButClock_iff.mp h; exact rfl
  set8 {s s' r} v h _ := by obtain ⟨f, ns, rfl⟩ := sameButClock_iff.mp h; cases r <;> exact rfl
  set16 {s s' r} w h _ := by obtain ⟨f, ns, rfl⟩ := sameButClock_iff.mp h; cases r <;> exact rfl

/-- With VRAM_DEFAULT the end of a step keeps the relation: its catch-up changes nothing. -/
theorem sameButClock_conclude {s s' : State} (h : sameButClock s s') (vram : s.bus.per.isVram = true) (w c : Nat) :
    sameButClock (s.conclude w c) (s'.conclude w c) := by
  obtain ⟨f, ns, rfl⟩ := sameButClock_iff.mp h
  have same (t t' : CycleTime) : s.bus.catchup t = s.bus.catchup t' := by
    rw [catchup_of_vram vram, catchup_of_vram vram]
  refine sameButClock_iff.mpr ⟨f, ⟨f, c⟩ :: ns, ?_⟩
  simp only [State.conclude, State.giveCost, State.notify, State.advance, State.cycleTime]
  rw [same ⟨f, c⟩ ⟨s.freqHz, c⟩]

/-- Under any peripheral, the end of a step tells the time to that peripheral's own state and to nothing else. -/
theorem forgetTime_conclude {s s' : State} (h : sameButClock s s') (w c : Nat) :
    forgetTime (s.conclude w c) = forgetTime (s'.conclude w c) := by
  obtain ⟨f, ns, rfl⟩ := sameButClock_iff.mp h
  cases hu : s.bus.per.unit <;>
    simp [forgetTime, State.conclude, State.giveCost, State.notify, State.advance, State.cycleTime, Bus.catchup,
      Peripheral.catchup, hu]

/-- Settles O58: `sameButClock` is kept by everything an execution stage does, and, the peripheral being VRAM_DEFAULT still
(O44), by the end of the step. -/
theorem clockIsNeverReadWithVram : Obligations.ClockIsNeverReadWithVram := by
  intro s s' vram h
  obtain ⟨u, u', w, c, related, hs, hs'⟩ | fault := unread_step unread_sameButClock h
  · have vram' : (u.conclude w c).bus.per.isVram = true := (parametersNeverChange s _ hs).2.trans vram
    have before : u.bus.per.isVram = true := by simpa using vram'
    exact .inl ⟨_, _, hs, hs', vram', sameButClock_conclude related before w c⟩
  · exact .inr fault

/-- Settles O55: as O58, with the peripheral's own state erased after the end of the step. -/
theorem timeIsNeverRead : Obligations.TimeIsNeverRead := by
  intro s f ns
  have differ : sameButClock s { s with freqHz := f, notices := ns } := sameButClock_iff.mpr ⟨f, ns, rfl⟩
  obtain ⟨u, u', w, c, related, hs, hs'⟩ | fault := unread_step unread_sameButClock differ
  · exact .inl ⟨_, _, hs, hs', forgetTime_conclude related w c⟩
  · exact .inr fault

end Sys2Proof.Proofs
end

section
/-! The statements about the step, operand resolution and the operation kinds, for any operand descriptors
(spec/40_step_and_operands.md R135 to R155, spec/42_ld.md R175, R189, spec/43_add.md R200 to R209). -/
namespace Sys2Proof.Proofs
open Sys2Proof.Machine Sys2Proof.Terms

/-! ### Addresses, as the statements spell them -/

/-- R137: the address of an 8-bit register has the high byte 0. -/
theorem zext16_eq (v : Byte) : zext16 v = 0x00#8 ++ v := BitVec.setWidth_eq_append (by decide)

/-- R139: the address of an offset immediate has the high byte 0xFF and the low byte `n`. -/
theorem offsetAddr_eq (n : Byte) : offsetAddr n = 0xFF#8 ++ n :=
  calc offsetAddr n = (0xFF#8 ++ 0x00#8) ||| (0x00#8 ++ n) := congrArg (Config.offsetBase ||| ·) (zext16_eq n)
    _ = (0xFF#8 ||| 0x00#8) ++ (0x00#8 ||| n) := BitVec.or_append
    _ = 0xFF#8 ++ n := by rw [BitVec.zero_or]; rfl

/-! ### The end of a successful step -/

/-- The machines agree but for the registers other than PC, the Bus and the value returned. -/
def restKept (s u : State) : Prop :=
  u.pc = s.pc ∧ u.notices = s.notices ∧ u.freqHz = s.freqHz ∧ u.flagBits = s.flagBits ∧ u.intHook = s.intHook

theorem restKept_add8 (s : State) (as : List Word) (r : Reg8) (a b : Byte) : restKept s ((s.afterReads as).add8 r a b) :=
  ⟨State.add8_pc _ _ _, State.add8_notices _ _ _, State.add8_freqHz _ _ _, State.add8_flagBits _ _ _,
    State.add8_intHook _ _ _⟩

theorem restKept_add16_hl (s : State) (a b : Word) : restKept s (s.add16 .hl a b) :=
  ⟨State.add16_other s (q := .pc) _ _ (by decide) (by decide), State.add16_notices _ _ _, State.add16_freqHz _ _ _,
    State.add16_flagBits _ _ _, State.add16_intHook _ _ _⟩

/-- The end of a step on the Bus `b` that its accesses leave. -/
theorem stepEnds_conclude {s u : State} {b : Bus} (rest : restKept s u) (bus : u.bus = b) (access : accessed s.bus b)
    (w c : Nat) : stepEnds w c b s (u.conclude w c) := by
  obtain ⟨pc, notices, freq, flagBits, intHook⟩ := rest
  obtain ⟨ramStart, ramSize, perStart, perSize⟩ := accessed_params access
  simp [stepEnds, paramsKept, State.cycleTime, pc, notices, freq, flagBits, intHook, bus, ramStart, ramSize, perStart,
    perSize]

/-- A step whose accesses are reads stores nothing. -/
theorem storesNothing_conclude {s u : State} {as : List Word} (rest : restKept s u) (bus : u.bus = s.bus.afterReads as)
    (w c : Nat) : storesNothing w c (s.bus.afterReads as) s (u.conclude w c) := by
  refine ⟨stepEnds_conclude rest bus ⟨as, .inl rfl⟩ w c, fun a _ steady => ?_⟩
  rw [State.conclude_bus, bus, read_catchup (by simpa using steady), Bus.read_afterReads steady]

/-- A step whose last access is a write that the Bus takes stores one byte. -/
theorem storesByte_conclude {s : State} {as : List Word} {a : Word} {v : Byte} {b : Bus}
    (hw : (s.bus.afterReads as).write a v = .ok b) (w c : Nat) :
    storesByte w c b a v s (({ s with bus := b } : State).conclude w c) := by
  have steadyAfter (x : Word) : b.steady x = s.bus.steady x := (write_steady hw x).trans (afterReads_steady _ _ _)
  refine ⟨⟨fun r _ => by cases r <;> rfl, rfl⟩, ?ends, fun x hne steady => ?other, fun hwf plain => ?same⟩
  case ends =>
    exact stepEnds_conclude (s := s) (u := { s with bus := b }) ⟨rfl, rfl, rfl, rfl, rfl⟩ rfl ⟨as, .inr ⟨a, v, hw⟩⟩ w c
  case other =>
    rw [State.conclude_bus, read_catchup ((steadyAfter x).trans steady),
      read_write_other hw hne (by simpa using steady), Bus.read_afterReads steady]
  case same =>
    simp only [State.wf, Bool.and_eq_true] at hwf
    obtain ⟨⟨⟨ram, per⟩, -⟩, -⟩ := hwf
    obtain ⟨ram', per'⟩ := Bus.wf_afterReads ram per as
    rw [State.conclude_bus, read_catchup ((steadyAfter a).trans (steady_of_plain plain)),
      read_write_same ram' per' hw (by simpa using plain)]

/-! ### The step -/

/-- The opcode read, then the row that it selects (R144, R145). -/
theorem stepTrace_of_read {s : State} {op : Byte} (h : s.bus.read s.pc = .ok op) :
    stepTrace s = ⟨.read s.pc :: (runDescriptor (descriptorOf (decodeOpcode op)) (s.afterRead s.pc)).events,
      (runDescriptor (descriptorOf (decodeOpcode op)) (s.afterRead s.pc)).result⟩ := by
  unfold stepTrace fetch
  rw [memRead_bind_ok h]
  rfl

/-- An opcode read that the Bus rejects is all there is (R150). -/
theorem stepTrace_of_read_error {s : State} {f : Fault} (h : s.bus.read s.pc = .error f) :
    stepTrace s = ⟨[.read s.pc], .error f⟩ := by
  unfold stepTrace fetch
  rw [memRead_bind_error h, error_bind]

/-- Settles O18: by the opcode read, and then by `exec_eq_runDescriptor`; no row is excluded (`instr_wf`). -/
theorem stepIsTheTableStep : Obligations.StepIsTheTableStep := by
  intro s
  cases fetched : s.bus.read s.pc with
  | error f =>
    refine ⟨?_, ?_⟩
    · rw [step_of_read_error fetched]; unfold stepWith; rw [fetched]
    · rw [step_of_read_error fetched, stepTrace_of_read_error fetched]; rfl
  | ok op =>
    have selected : step s = deliver (runDescriptor (descriptorOf (decodeOpcode op)) (s.afterRead s.pc)) := by
      rw [step_of_read fetched, exec_eq_runDescriptor]
    refine ⟨?_, ?_⟩
    · rw [selected]; unfold stepWith; rw [fetched]; exact if_pos (instr_wf (decodeOpcode op))
    · rw [selected, stepTrace_of_read fetched]; rfl

/-- Settles O17: what decodes starts with the opcode byte of its instruction (`step_of_read`); a rejected opcode read is
OutOfBounds of PC. -/
theorem stepRunsTheDecodedInstruction : Obligations.StepRunsTheDecodedInstruction := by
  intro s
  refine ⟨fun c rest bytes hdec opcode => ?decoded, fun op => step_of_read, fun f rejected => ?rejected, rfl,
    fun steady => ?steady⟩
  case decoded =>
    obtain ⟨-, bytesOf⟩ := encodingInvertsDecoding bytes rest c hdec
    have first : bytes.head? = some (opcodeOf c.instr) := by rw [← bytesOf]; rfl
    rw [step_of_read (opcode _ first), decodeOpcode_opcodeOf]
  case rejected => rw [step_of_read_error rejected, Bus.read_error rejected]
  case steady => rw [State.afterRead, Bus.afterRead_of_steady steady]

/-! ### Operand resolution -/

/-- Settles O34: the equations of `resolve`, operand kind by operand kind, with the addresses as the spec spells them. -/
theorem operandsResolve : Obligations.OperandsResolve := by
  intro s ia
  refine ⟨fun r => rfl, fun r => rfl, fun p a address => ?deref,
    ⟨fun v => resolve_immByte_ok s ia, fun f => resolve_immByte_error s ia⟩,
    ⟨fun n hn => ?offset, fun f => resolve_offsetImm_error s ia⟩,
    fun h hh => ⟨fun l => resolve_immWord_ok s ia hh, fun f => resolve_immWord_error' s ia hh⟩,
    fun f => resolve_immWord_error s ia⟩
  case deref =>
    have pointer : s.pointer p = a := by
      obtain ⟨r, rfl, rfl⟩ | ⟨r, rfl, rfl⟩ := address
      · rfl
      · exact zext16_eq _
    subst pointer
    refine ⟨?_, fun v hv => by rw [resolve_deref_ok s ia hv], fun f hf => by rw [resolve_deref_error s ia hf]⟩
    rcases s.bus.read_total (s.pointer p) with ⟨v, hv⟩ | hf
    · rw [resolve_deref_ok s ia hv]
    · rw [resolve_deref_error s ia hf]
  case offset =>
    rw [← offsetAddr_eq]
    exact ⟨fun v => resolve_offsetImm_ok s ia hn, fun f => resolve_offsetImm_error' s ia hn⟩

/-- Settles O35: by the definitions of the two narrowings. -/
theorem narrowingNeverReinterprets : Obligations.NarrowingNeverReinterprets :=
  fun _ _ _ _ => ⟨rfl, rfl, rfl, rfl, rfl⟩

/-! ### LD with any operands -/

/-- After a source byte, LD is its store and the end of the step. -/
theorem runLd_of_byte {s u : State} {src : Operand} {v : Byte} (h : (resolve s src s.pc).result = .ok (.byte v, u))
    (dst : Operand) (w c : Nat) :
    deliver (runLd dst src w c s) = deliver ((storeByte u dst v s.pc).bind (finish w c)) := by
  unfold runLd
  rw [Traced.bind_of_ok h]
  rfl

/-- A source that faults ends LD. -/
theorem runLd_of_error {s : State} {src : Operand} {f : Fault} (h : (resolve s src s.pc).result = .error f)
    (dst : Operand) (w c : Nat) : deliver (runLd dst src w c s) = .fault f := by
  rw [deliver_fault]
  exact Traced.bind_result_error.mpr (.inl h)

/-- A source word ends LD: no word is narrowed to a byte (R142). -/
theorem runLd_of_word {s u : State} {src : Operand} {x : Word} (h : (resolve s src s.pc).result = .ok (.word x, u))
    (dst : Operand) (w c : Nat) : deliver (runLd dst src w c s) = .fault (.illegalInstruction s.pc) := by
  rw [deliver_fault]
  exact Traced.bind_result_error.mpr (.inr ⟨_, h, rfl⟩)

/-- What a step answers does not depend on the events of its first part. -/
theorem deliver_bind_events {α : Type} (es : List BusEvent) (x : Traced α) (k : α → Traced State) :
    deliver (Traced.bind ⟨es, x.result⟩ k) = deliver (x.bind k) := by
  cases hx : x.result <;> simp [deliver, Traced.bind, hx]

/-- The write of LD, and the end of the step. -/
theorem deliver_memWrite_finish (s : State) (a : Word) (v : Byte) (w c : Nat) :
    (∀ b, s.bus.write a v = .ok b →
      deliver ((memWrite s a v).bind (finish w c)) = .next (({ s with bus := b } : State).conclude w c)) ∧
    ∀ f, s.bus.write a v = .error f → deliver ((memWrite s a v).bind (finish w c)) = .fault (.outOfBounds a) := by
  refine ⟨fun b taken => ?_, fun f rejected => ?_⟩
  · rw [memWrite_of_ok taken]; rfl
  · rw [memWrite_of_error rejected, Bus.write_error rejected]; rfl

section Destinations

variable {s u : State} {src : Operand} {v : Byte} (h : (resolve s src s.pc).result = .ok (.byte v, u)) (w c : Nat)

include h

/-- A byte into an 8-bit register (R175). -/
theorem runLd_to_register (r : Reg8) : ∃ t, deliver (runLd (.reg (.byte r)) src w c s) = .next t ∧
    t.get8 r = v ∧ registersKept (fun q => q = r) s t ∧ storesNothing w c u.bus s t := by
  rw [runLd_of_byte h]
  obtain ⟨as, -, rfl⟩ := resolve_leaves s s.pc h
  refine ⟨((s.afterReads as).set8 r v).conclude w c, rfl, by simp, ⟨fun q hq => ?_, by simp⟩, ?_⟩
  · rw [State.conclude_get8, State.get8_set8_other _ v hq, State.afterReads_get8]
  · exact storesNothing_conclude (by simp [restKept]) (by simp) w c

/-- A byte to the address in a register: the write is made on the machine that the source's reads leave. -/
theorem runLd_to_pointer (p : RegName) :
    (∀ b, u.bus.write (s.pointer p) v = .ok b → ∃ t, deliver (runLd (.deref p) src w c s) = .next t ∧
      storesByte w c b (s.pointer p) v s t) ∧
    ∀ f, u.bus.write (s.pointer p) v = .error f →
      deliver (runLd (.deref p) src w c s) = .fault (.outOfBounds (s.pointer p)) := by
  rw [runLd_of_byte h]
  obtain ⟨as, -, rfl⟩ := resolve_leaves s s.pc h
  have pointer : (s.afterReads as).pointer p = s.pointer p := by cases p <;> simp [State.pointer]
  rw [storeByte_deref, pointer]
  obtain ⟨ok, error⟩ := deliver_memWrite_finish (s.afterReads as) (s.pointer p) v w c
  exact ⟨fun b taken => ⟨_, ok b taken, storesByte_conclude taken w c⟩, error⟩

/-- A byte to an offset immediate whose offset byte the Bus does not answer. -/
theorem runLd_to_highPage_error {f : Fault} (rejected : u.bus.read (s.pc + 1) = .error f) :
    deliver (runLd .offsetImm src w c s) = .fault (.outOfBounds (s.pc + 1)) := by
  rw [runLd_of_byte h, storeByte_offsetImm_error (ia := s.pc) rejected, Bus.read_error rejected]
  rfl

/-- A byte to an offset immediate: the offset byte is read, and then the write is made. -/
theorem runLd_to_highPage {n : Byte} (offset : u.bus.read (s.pc + 1) = .ok n) :
    (∀ b, (u.bus.afterRead (s.pc + 1)).write (0xFF#8 ++ n) v = .ok b →
      ∃ t, deliver (runLd .offsetImm src w c s) = .next t ∧ storesByte w c b (0xFF#8 ++ n) v s t) ∧
    ∀ f, (u.bus.afterRead (s.pc + 1)).write (0xFF#8 ++ n) v = .error f →
      deliver (runLd .offsetImm src w c s) = .fault (.outOfBounds (0xFF#8 ++ n)) := by
  rw [← offsetAddr_eq]
  have write : deliver (runLd .offsetImm src w c s) =
      deliver ((memWrite (u.afterRead (immAddr s.pc 1)) (offsetAddr n) v).bind (finish w c)) := by
    rw [runLd_of_byte h, storeByte_offsetImm_ok (ia := s.pc) offset]
    exact deliver_bind_events _ _ _
  rw [write]
  obtain ⟨as, -, rfl⟩ := resolve_leaves s s.pc h
  obtain ⟨ok, error⟩ := deliver_memWrite_finish ((s.afterReads as).afterRead (immAddr s.pc 1)) (offsetAddr n) v w c
  refine ⟨fun b taken => ⟨_, ok b taken, ?_⟩, error⟩
  refine storesByte_conclude (as := as ++ [immAddr s.pc 1]) ?_ w c
  rw [bus_afterReads_append]
  exact taken

end Destinations

/-- Settles O36: the source first (`runLd_of_error`, `runLd_of_word`), then the destination by its kind. -/
theorem ldMovesAByteForAnyOperands : Obligations.LdMovesAByteForAnyOperands := by
  intro dst src w c s
  refine ⟨fun f h => runLd_of_error h dst w c, fun x u h => runLd_of_word h dst w c, fun v u h => ?byte⟩
  refine ⟨?toByte, ?toWord, ?toPointer, ?toHighPage, ?toNothing⟩
  case toByte => rintro r rfl; exact runLd_to_register h w c r
  case toWord => rintro r rfl; rw [runLd_of_byte h]; rfl
  case toPointer => rintro p rfl; exact runLd_to_pointer h w c p
  case toHighPage =>
    rintro rfl
    exact ⟨fun f => runLd_to_highPage_error h w c, fun n => runLd_to_highPage h w c⟩
  case toNothing => rw [runLd_of_byte h]; rintro (rfl | rfl | rfl) <;> rfl

/-! ### ADD with other operands -/

/-- Settles O39: the destination is looked at first; a source that faults or has the other width ends ADD. -/
theorem addRefusesOtherOperands : Obligations.AddRefusesOtherOperands := by
  intro dst src w c s
  refine ⟨fun notRegister => ?noRegister, fun r f hd h => ?fault, fun r x u hd h => ?word, fun r x u hd h => ?byte⟩
  case noRegister =>
    cases dst with
    | reg r => exact absurd rfl (notRegister r)
    | _ => rfl
  case fault =>
    subst hd
    rw [deliver_fault]
    cases r <;> exact Traced.bind_result_error.mpr (.inl h)
  case word =>
    subst hd
    simp [runAdd, Traced.bind_of_ok h]
  case byte =>
    subst hd
    simp [runAdd, Traced.bind_of_ok h]

/-! ### A step over any table -/

/-- Settles O40: an excluded entry is refused before it runs; every other runs by its kind. -/
theorem anyTableDispatchesOnTheKind : Obligations.AnyTableDispatchesOnTheKind := by
  intro table s op fetched
  have selected : stepWith table s = if (table op).wf then deliver (runDescriptor (table op) (s.afterRead s.pc))
      else .refused .tableRefused := by
    unfold stepWith; rw [fetched]
  rw [selected]
  refine ⟨fun excluded => by simp [excluded], fun hwf => ?_⟩
  rw [if_pos hwf]
  unfold runDescriptor
  refine ⟨fun kind => ?_, fun k kind => ?_, fun kind => ?nop, fun kind => ?_, fun kind => ?_⟩ <;> rw [kind]
  case nop =>
    refine ⟨(s.afterRead s.pc).conclude _ _, rfl, ⟨fun r _ => by simp, rfl⟩, ?_⟩
    exact storesNothing_conclude (s := s) (as := [s.pc]) (u := s.afterRead s.pc) ⟨rfl, rfl, rfl, rfl, rfl⟩ rfl _ _
  all_goals rfl

end Sys2Proof.Proofs
end

section
/-! The statements about the instructions of the default table, one form at a time (spec/41_nop.md, spec/42_ld.md,
spec/43_add.md, spec/44_placeholder_and_invalid.md): each takes its row of the table and the rule of its kind. -/
namespace Sys2Proof.Proofs
open Sys2Proof.Machine Sys2Proof.Terms

/-! ### The rows of the forms -/

theorem exec_of_ld_row {i : Instr} {dst src : Operand} {w c : Nat} (row : descriptorOf i = ⟨.ld, dst, src, w, c⟩)
    (s : State) : exec i s = deliver (runLd dst src w c s) := by
  rw [exec_eq_runDescriptor, row]; rfl

theorem exec_of_add_row {i : Instr} {dst src : Operand} {w c : Nat} (row : descriptorOf i = ⟨.add, dst, src, w, c⟩)
    (s : State) : exec i s = deliver (runAdd dst src w c s) := by
  rw [exec_eq_runDescriptor, row]; rfl

theorem ldRegisterRows_rows : ∀ x ∈ ldRegisterRows,
    descriptorOf x.1 = ⟨.ld, .reg (.byte x.2.1), .reg (.byte x.2.2), 1, 4⟩ := by decide

theorem loadRows_rows : ∀ x ∈ loadRows, descriptorOf x.1 = ⟨.ld, .reg (.byte x.2.1), .deref x.2.2, 1, 8⟩ := by decide

theorem storeRows_rows : ∀ x ∈ storeRows, descriptorOf x.1 = ⟨.ld, .deref x.2.2, .reg (.byte x.2.1), 1, 8⟩ := by decide

theorem ldImmediateRows_rows : ∀ x ∈ ldImmediateRows,
    descriptorOf x.1 = ⟨.ld, .reg (.byte x.2), .immByte, 2, 8⟩ := by decide

theorem addRegisterRows_rows : ∀ x ∈ addRegisterRows,
    descriptorOf x.1 = ⟨.add, .reg (.byte .a), .reg (.byte x.2), 1, 4⟩ := by decide

theorem addPairRows_rows : ∀ x ∈ addPairRows,
    descriptorOf x.1 = ⟨.add, .reg (.word .hl), .reg (.word x.2), 1, 8⟩ := by decide

theorem placeholderRows_kinds : ∀ i ∈ placeholderRows,
    (descriptorOf i).kind.specified = false ∧ (descriptorOf i).kind ≠ .invalid := by decide +kernel

theorem invalidRows_kinds : ∀ i ∈ invalidRows, (descriptorOf i).kind = .invalid := by decide

/-- A kind that has no semantics and is not the sentinel is a placeholder (R111). -/
theorem placeholder_of_unspecified {k : Kind} (unspecified : k.specified = false) (valid : k ≠ .invalid) :
    ∃ p, k = .placeholder p := by
  cases k with
  | placeholder p => exact ⟨p, rfl⟩
  | invalid => exact absurd rfl valid
  | _ => cases unspecified

/-! ### NOP and the instructions that stop on every path -/

/-- Settles O19: NOP is the end of the step. -/
theorem nopOnlyEndsTheStep : Obligations.NopOnlyEndsTheStep := by
  refine ⟨rfl, fun s => ⟨s.conclude 1 4, rfl, ⟨fun r _ => s.conclude_get8 1 4 r, rfl⟩, ?_⟩⟩
  exact storesNothing_conclude (s := s) (u := s) (as := []) ⟨rfl, rfl, rfl, rfl, rfl⟩ rfl 1 4

/-- An instruction whose row runs no access and raises `f`: a step that fetches it stops after the opcode read. -/
theorem step_of_raising {i : Instr} {s : State} {f : Fault} (fetched : s.bus.read s.pc = .ok (opcodeOf i))
    (raises : runDescriptor (descriptorOf i) (s.afterRead s.pc) = .raise f) :
    step s = .fault f ∧ (stepTrace s).events = [.read s.pc] := by
  rw [step_of_read fetched, stepTrace_of_read fetched, decodeOpcode_opcodeOf, exec_eq_runDescriptor, raises]
  exact ⟨rfl, rfl⟩

/-- Settles O32: the kind of each row is a placeholder, which raises at PC whatever the machine. -/
theorem placeholdersStopUnimplemented : Obligations.PlaceholdersStopUnimplemented := by
  intro i mem s
  obtain ⟨unspecified, valid⟩ := placeholderRows_kinds i mem
  obtain ⟨k, kind⟩ := placeholder_of_unspecified unspecified valid
  have raises (u : State) : runDescriptor (descriptorOf i) u = .raise (.unimplemented u.pc) := by
    unfold runDescriptor; rw [kind]; rfl
  exact ⟨by rw [exec_eq_runDescriptor, raises]; rfl, fun fetched => step_of_raising fetched (raises _)⟩

/-- Settles O33: the kind of each row is the sentinel, which raises at PC whatever the machine. -/
theorem invalidOpcodesAreIllegal : Obligations.InvalidOpcodesAreIllegal := by
  intro i mem s
  have raises (u : State) : runDescriptor (descriptorOf i) u = .raise (.illegalInstruction u.pc) := by
    unfold runDescriptor; rw [invalidRows_kinds i mem]; rfl
  exact ⟨by rw [exec_eq_runDescriptor, raises]; rfl, fun fetched => step_of_raising fetched (raises _)⟩

theorem ldWordRows_rows : ∀ i ∈ [Instr.ld_bc_d16, .ld_de_d16, .ld_hl_d16, .ld_sp_d16],
    ∃ r, descriptorOf i = ⟨.ld, .reg (.word r), .immWord, 3, 12⟩ := by
  simp [descriptorOf]

/-- Settles O27: each reads its operand bytes, and then its source has not the width that its kind needs. -/
theorem widthMismatchAlwaysFaults : Obligations.WidthMismatchAlwaysFaults := by
  refine ⟨fun i mem s => ?ldWord, fun s => rfl, fun s => ⟨fun f rejected => ?addFault, fun v read => ?addByte⟩⟩
  case ldWord =>
    obtain ⟨r, row⟩ := ldWordRows_rows i mem
    rw [exec_of_ld_row row]
    refine ⟨fun f rejected => ?_, fun h high => ⟨fun f rejected => ?_, fun l low => ?_⟩⟩
    · rw [← Bus.read_error rejected]
      exact runLd_of_error (by rw [resolve_immWord_error s s.pc rejected]) _ 3 12
    · rw [← Bus.read_error rejected]
      exact runLd_of_error (by rw [resolve_immWord_error' s s.pc high rejected]) _ 3 12
    · exact runLd_of_word (by rw [resolve_immWord_ok s s.pc high low]) _ 3 12
  case addFault =>
    obtain ⟨-, fault, -, -⟩ := addRefusesOtherOperands (.reg (.word .sp)) .immByte 2 16 s
    rw [← Bus.read_error rejected]
    exact fault _ f rfl (by rw [resolve_immByte_error s s.pc rejected])
  case addByte =>
    obtain ⟨-, -, -, byte⟩ := addRefusesOtherOperands (.reg (.word .sp)) .immByte 2 16 s
    have source : (resolve s .immByte s.pc).result = .ok (.byte v, s.afterRead (s.pc + 1)) := by
      rw [resolve_immByte_ok s s.pc read]; rfl
    exact (congrArg deliver (byte .sp v _ rfl source)).trans rfl

/-! ### LD -/

/-- Plain memory takes every write, so that what completes with each write taken completes there. -/
theorem completes_of_plain {o : Outcome} {b : Bus} {a : Word} {v : Byte} {P : Bus → State → Prop}
    (plain : b.plain a = true) (stores : ∀ b', b.write a v = .ok b' → ∃ t, o = .next t ∧ P b' t) :
    ∃ t, o = .next t := by
  obtain ⟨b', taken⟩ := write_of_plain plain v
  obtain ⟨t, next, -⟩ := stores b' taken
  exact ⟨t, next⟩

/-- Settles O20: the source register is read without an access, and `runLd_to_register` gives the rest. -/
theorem ldRegisterMovesAByte : Obligations.LdRegisterMovesAByte := by
  intro i dst src mem s
  rw [exec_of_ld_row (ldRegisterRows_rows _ mem)]
  exact runLd_to_register (src := .reg (.byte src)) (u := s) rfl 1 4 dst

/-- Settles O21: the source is one Bus read at the pointer, which answers a byte or ends the step. -/
theorem loadThroughARegister : Obligations.LoadThroughARegister := by
  intro i dst p mem s
  rw [exec_of_ld_row (loadRows_rows _ mem)]
  refine ⟨by rintro r rfl; rfl, by rintro r rfl; exact zext16_eq _, fun v read => ?_, fun f rejected => ?_⟩
  · exact runLd_to_register (by rw [resolve_deref_ok s s.pc read]) 1 8 dst
  · rw [← Bus.read_error rejected]
    exact runLd_of_error (by rw [resolve_deref_error s s.pc rejected]) _ 1 8

/-- Settles O22: the source register is read without an access, and `runLd_to_pointer` gives the write. -/
theorem storeThroughARegister : Obligations.StoreThroughARegister := by
  intro i r p mem s
  rw [exec_of_ld_row (storeRows_rows _ mem)]
  obtain ⟨stores, faults⟩ := runLd_to_pointer (src := .reg (.byte r)) (s := s) (u := s) rfl 1 8 p
  refine ⟨by rintro q rfl; rfl, by rintro q rfl; exact zext16_eq _, fun plain => ?_, stores, faults⟩
  exact completes_of_plain plain stores

/-- Settles O23: the source is one Bus read of the byte after the opcode, which answers it or ends the step. -/
theorem ldImmediateLoadsTheNextByte : Obligations.LdImmediateLoadsTheNextByte := by
  intro i dst mem s
  rw [exec_of_ld_row (ldImmediateRows_rows _ mem)]
  refine ⟨fun v read => ?_, fun f rejected => ?_⟩
  · exact runLd_to_register (by rw [resolve_immByte_ok s s.pc read]) 2 8 dst
  · rw [← Bus.read_error rejected]
    exact runLd_of_error (by rw [resolve_immByte_error s s.pc rejected]) _ 2 8

/-- Settles O24: the source is one Bus read, which leaves plain memory plain; `runLd_to_pointer` gives the write. -/
theorem ldHlImmediateStoresTheNextByte : Obligations.LdHlImmediateStoresTheNextByte := by
  intro s
  rw [exec_of_ld_row (i := .ld_mhl_d8) rfl]
  refine ⟨fun v read => ?_, fun f rejected => ?_⟩
  · obtain ⟨stores, faults⟩ := runLd_to_pointer (by rw [resolve_immByte_ok s s.pc read]) 2 12 (.word .hl)
    exact ⟨fun plain => completes_of_plain ((s.bus.afterRead_plain (s.pc + 1) s.hl).trans plain) stores, stores, faults⟩
  · rw [← Bus.read_error rejected]
    exact runLd_of_error (by rw [resolve_immByte_error s s.pc rejected]) _ 2 12

/-- Settles O25: A is read without an access; `runLd_to_highPage` reads the offset byte and writes. -/
theorem ldhStoresAIntoTheHighPage : Obligations.LdhStoresAIntoTheHighPage := by
  intro s
  rw [exec_of_ld_row (i := .ldh_ma8_a) rfl]
  have source : (resolve s (.reg (.byte .a)) s.pc).result = .ok (.byte (s.get8 .a), s) := rfl
  refine ⟨fun n offset => ?_, fun f rejected => runLd_to_highPage_error source 2 12 rejected⟩
  obtain ⟨stores, faults⟩ := runLd_to_highPage source 2 12 offset
  exact ⟨fun plain => completes_of_plain ((s.bus.afterRead_plain (s.pc + 1) _).trans plain) stores, stores, faults⟩

/-- Settles O26: the source is two Bus reads, the offset byte and the byte it points at; either can end the step. -/
theorem ldhLoadsAFromTheHighPage : Obligations.LdhLoadsAFromTheHighPage := by
  intro s
  rw [exec_of_ld_row (i := .ldh_a_ma8) rfl]
  refine ⟨fun n offset => ?_, fun f rejected => ?_⟩
  · rw [← offsetAddr_eq]
    refine ⟨fun v read => ?_, fun f rejected => ?_⟩
    · exact runLd_to_register (by rw [resolve_offsetImm_ok s s.pc offset read]) 2 12 .a
    · rw [← Bus.read_error rejected]
      exact runLd_of_error (by rw [resolve_offsetImm_error' s s.pc offset rejected]) _ 2 12
  · rw [← Bus.read_error rejected]
    exact runLd_of_error (by rw [resolve_offsetImm_error s s.pc rejected]) _ 2 12

/-! ### ADD -/

/-- A sum is zero when it is a multiple of the modulus. -/
theorem add_beq_zero {n : Nat} (a b : BitVec n) : (a + b == 0#n) = true ↔ (a.toNat + b.toNat) % 2 ^ n = 0 := by
  rw [beq_iff_eq, ← BitVec.toNat_inj, BitVec.toNat_add, BitVec.toNat_ofNat, Nat.zero_mod]

/-- What ADD to A does to the registers, after the reads `as` of its source. -/
theorem addedToA_add8 {s : State} (distinct : s.flagBits.distinct = true) (as : List Word) (b : Byte) (w c : Nat) :
    addedToA b s (((s.afterReads as).add8 .a (s.get8 .a) b).conclude w c) := by
  have notF : Reg8.a ≠ .f := by decide
  obtain ⟨-, -, -, z⟩ := (s.afterReads as).add8_flags (s.get8 .a) b distinct notF
  refine ⟨?sum, add8_carriesOf (s := s.afterReads as) distinct notF _ b, ?zero, fun k unused => ?unused,
    fun r hr => ?others, State.add8_sp _ _ _⟩
  case sum => rw [State.conclude_get8, State.add8_dest _ _ _ notF, BitVec.toNat_add]
  case zero => rw [State.conclude_flag, z, Bool.or_eq_true, add_beq_zero]; rfl
  case unused =>
    rw [State.conclude_get8]
    simp only [State.get8, getLsbD_getLow, State.add8_unused (s.afterReads as) _ b notF k.isLt (ne_index_of_unused unused),
      State.afterReads_af]
  case others =>
    obtain ⟨notA, notF'⟩ := not_or.mp hr
    rw [State.conclude_get8, State.add8_other _ _ _ notA notF', State.afterReads_get8]

/-- The 16-bit ADD leaves A. -/
theorem add16_high (s : State) {r : Reg16} (hr : r ≠ .af) (a b : Word) : getHigh (s.add16 r a b).af = getHigh s.af := by
  simp only [State.add16, State.raiseFlag_high, State.set16_af _ _ hr, State.clearHCN_high]

/-- What ADD to HL does to the registers. -/
theorem addedToHl_add16 {s : State} (distinct : s.flagBits.distinct = true) (b : Word) (w c : Nat) :
    addedToHl b s ((s.add16 .hl (s.get16 .hl) b).conclude w c) := by
  have notAf : Reg16.hl ≠ .af := by decide
  have bc := s.add16_other (r := .hl) (q := .bc) (s.get16 .hl) b (by decide) (by decide)
  have de := s.add16_other (r := .hl) (q := .de) (s.get16 .hl) b (by decide) (by decide)
  obtain ⟨-, -, -, z⟩ := s.add16_flags (s.get16 .hl) b distinct notAf
  refine ⟨?sum, add16_carriesOf distinct notAf _ b, ?zero, fun k unused => ?unused, fun r hr => ?others,
    s.add16_other (q := .sp) _ b (by decide) (by decide)⟩
  case sum =>
    rw [conclude_get16 _ w c (by decide), State.add16_dest _ _ _ notAf, BitVec.toNat_add]
  case zero => rw [State.conclude_flag, z, Bool.or_eq_true, add_beq_zero]; rfl
  case unused =>
    rw [State.conclude_get8]
    simp only [State.get8, getLsbD_getLow, State.add16_unused s _ b notAf (ne_index_of_unused unused)]
  case others =>
    rw [State.conclude_get8]
    cases r with
    | a => exact add16_high s notAf _ b
    | b => exact congrArg getHigh bc
    | c => exact congrArg getLow bc
    | d => exact congrArg getHigh de
    | e => exact congrArg getLow de
    | f => exact absurd (.inr (.inr rfl)) hr
    | h => exact absurd (.inl rfl) hr
    | l => exact absurd (.inr (.inl rfl)) hr

/-- ADD to A of a source byte: what it does to the registers, and that it stores nothing. -/
theorem runAdd_to_a {s u : State} {src : Operand} {b : Byte} (distinct : s.flagBits.distinct = true)
    (h : (resolve s src s.pc).result = .ok (.byte b, u)) (w c : Nat) :
    ∃ t, deliver (runAdd (.reg (.byte .a)) src w c s) = .next t ∧ addedToA b s t ∧ storesNothing w c u.bus s t := by
  rw [runAdd_of_byte h]
  obtain ⟨as, -, rfl⟩ := resolve_leaves s s.pc h
  exact ⟨_, rfl, addedToA_add8 distinct as b w c,
    storesNothing_conclude (restKept_add8 s as _ _ b) (State.add8_bus _ _ _) w c⟩

/-- A source that faults ends ADD. -/
theorem runAdd_of_error {s : State} {r : RegName} {src : Operand} {f : Fault}
    (h : (resolve s src s.pc).result = .error f) (w c : Nat) : deliver (runAdd (.reg r) src w c s) = .fault f := by
  obtain ⟨-, fault, -, -⟩ := addRefusesOtherOperands (.reg r) src w c s
  exact fault r f rfl h

/-- Settles O28: the source register is read without an access, and `runAdd_to_a` gives the rest. -/
theorem addRegisterToA : Obligations.AddRegisterToA := by
  intro i r mem s distinct
  rw [exec_of_add_row (addRegisterRows_rows _ mem)]
  exact runAdd_to_a (src := .reg (.byte r)) (u := s) distinct rfl 1 4

/-- Settles O29: the source is one Bus read at HL, which answers a byte or ends the step. -/
theorem addMemoryToA : Obligations.AddMemoryToA := by
  intro s distinct
  rw [exec_of_add_row (i := .add_a_mhl) rfl]
  refine ⟨fun v read => ?_, fun f rejected => ?_⟩
  · exact runAdd_to_a distinct (by rw [resolve_deref_ok s s.pc (r := .word .hl) read]) 1 8
  · rw [← Bus.read_error rejected]
    exact runAdd_of_error (by rw [resolve_deref_error s s.pc (r := .word .hl) rejected]) 1 8

/-- Settles O30: the source is one Bus read of the byte after the opcode, which answers it or ends the step. -/
theorem addImmediateToA : Obligations.AddImmediateToA := by
  intro s distinct
  rw [exec_of_add_row (i := .add_a_d8) rfl]
  refine ⟨fun v read => ?_, fun f rejected => ?_⟩
  · exact runAdd_to_a distinct (by rw [resolve_immByte_ok s s.pc read]) 2 8
  · rw [← Bus.read_error rejected]
    exact runAdd_of_error (by rw [resolve_immByte_error s s.pc rejected]) 2 8

/-- Settles O31: the source pair is read without an access, and `addedToHl_add16` gives the registers. -/
theorem addPairToHl : Obligations.AddPairToHl := by
  intro i r mem s distinct
  rw [exec_of_add_row (addPairRows_rows _ mem), runAdd_of_word (src := .reg (.word r)) (u := s) rfl]
  exact ⟨_, rfl, addedToHl_add16 distinct _ 1 8,
    storesNothing_conclude (as := []) (restKept_add16_hl s _ _) (State.add16_bus _ _ _) 1 8⟩

end Sys2Proof.Proofs
end

section
/-! The statements about the Bus events of a step: their order and number, the catch-up, the fault they end in, and what a
store leaves for the next fetch (spec/40_step_and_operands.md R150 to R154, spec/60_exceptions.md R230 to R254,
spec/20_memory.md R89, R90). -/
namespace Sys2Proof.Proofs
open Sys2Proof.Machine Sys2Proof.Terms

/-! ### The events of a step, from those of its execute stage -/

/-- A descriptor that answers a next state: the events of its execute stage, and then one catch-up. -/
theorem runDescriptor_of_ok {d : Descriptor} {s u : State} (h : (execute d s).result = .ok u) :
    runDescriptor d s =
      ⟨(execute d s).events ++ [.catchup ⟨s.freqHz, d.cycles⟩], .ok (u.conclude d.width d.cycles)⟩ ∧
    u.notices = s.notices := by
  have kept : u.freqHz = s.freqHz ∧ u.notices = s.notices := by
    cases execute_cases d s with
    | done as t leaves runs =>
      obtain rfl : t = u := Except.ok.inj ((congrArg Traced.result runs).symm.trans h)
      exact leaves.2
    | stored as a v b taken runs =>
      obtain rfl : { s with bus := b } = u := Except.ok.inj ((congrArg Traced.result runs).symm.trans h)
      exact ⟨rfl, rfl⟩
    | readRejected as a rejects runs => rw [runs] at h; cases h
    | writeRejected as a v rejects runs => rw [runs] at h; cases h
    | raised as f own runs => rw [runs] at h; cases h
  obtain ⟨freq, notices⟩ := kept
  rw [runDescriptor_eq, Traced.bind_of_ok h, ← freq]
  exact ⟨rfl, notices⟩

/-- A descriptor that faults: the events of its execute stage. -/
theorem runDescriptor_of_error {d : Descriptor} {s : State} {f : Fault} (h : (execute d s).result = .error f) :
    runDescriptor d s = ⟨(execute d s).events, .error f⟩ := by
  rw [runDescriptor_eq, Traced.bind_of_error h]

/-- The events of an execute stage are accesses. -/
theorem execute_only_accesses {d : Descriptor} {s : State} {e : BusEvent} (h : e ∈ (execute d s).events) :
    isCatchup e = false := by
  have read {as : List Word} (he : e ∈ as.map BusEvent.read) : isCatchup e = false := by
    obtain ⟨a, -, rfl⟩ := List.mem_map.mp he
    rfl
  cases execute_cases d s with
  | done as t leaves runs => rw [runs] at h; exact read h
  | raised as f own runs => rw [runs] at h; exact read h
  | stored as a v b taken runs =>
    rw [runs] at h
    exact (List.mem_append.mp h).elim read fun last => by rw [List.mem_singleton.mp last]; rfl
  | readRejected as a rejects runs =>
    rw [runs] at h
    exact (List.mem_append.mp h).elim read fun last => by rw [List.mem_singleton.mp last]; rfl
  | writeRejected as a v rejects runs =>
    rw [runs] at h
    exact (List.mem_append.mp h).elim read fun last => by rw [List.mem_singleton.mp last]; rfl

/-- The accesses of a descriptor are the events of its execute stage. -/
theorem runDescriptor_accesses (d : Descriptor) (s : State) :
    ((runDescriptor d s).events.filter fun e => !isCatchup e) = (execute d s).events := by
  have all : ((execute d s).events.filter fun e => !isCatchup e) = (execute d s).events :=
    List.filter_eq_self.mpr fun e he => by rw [execute_only_accesses he]; rfl
  cases h : (execute d s).result with
  | ok u => rw [(runDescriptor_of_ok h).1, List.filter_append, all]; exact List.append_nil _
  | error f => rw [runDescriptor_of_error h, all]

/-- A successful step, by its events: the opcode read, the accesses of the execute stage, the catch-up. -/
theorem stepTrace_of_next {s t : State} (h : step s = .next t) :
    ∃ op u, s.bus.read s.pc = .ok op ∧
      (execute (descriptorOf (decodeOpcode op)) (s.afterRead s.pc)).result = .ok u ∧ u.notices = s.notices ∧
      t = u.conclude (descriptorOf (decodeOpcode op)).width (descriptorOf (decodeOpcode op)).cycles ∧
      (stepTrace s).events = .read s.pc :: (execute (descriptorOf (decodeOpcode op)) (s.afterRead s.pc)).events ++
        [.catchup ⟨s.freqHz, (descriptorOf (decodeOpcode op)).cycles⟩] := by
  obtain ⟨op, fetched, runs⟩ := step_next h
  rw [stepTrace_of_read fetched]
  cases stage : (execute (descriptorOf (decodeOpcode op)) (s.afterRead s.pc)).result with
  | error f => rw [runDescriptor_of_error stage] at runs; cases runs
  | ok u =>
    obtain ⟨trace, notices⟩ := runDescriptor_of_ok stage
    rw [trace] at runs ⊢
    exact ⟨op, u, fetched, stage, notices, (Except.ok.inj runs).symm, rfl⟩

/-- A faulting step, by its events: the opcode read, which is rejected, or the accesses of the execute stage after it. -/
theorem stepTrace_of_fault {s : State} {f : Fault} (h : step s = .fault f) :
    (s.bus.read s.pc = .error f ∧ (stepTrace s).events = [.read s.pc]) ∨
    ∃ op, (execute (descriptorOf (decodeOpcode op)) (s.afterRead s.pc)).result = .error f ∧
      (stepTrace s).events = .read s.pc :: (execute (descriptorOf (decodeOpcode op)) (s.afterRead s.pc)).events := by
  cases fetched : s.bus.read s.pc with
  | error g =>
    rw [step_of_read_error fetched] at h
    cases h
    exact .inl ⟨rfl, by rw [stepTrace_of_read_error fetched]⟩
  | ok op =>
    rw [step_of_read fetched, exec_eq_runDescriptor, deliver_fault] at h
    rw [stepTrace_of_read fetched]
    cases stage : (execute (descriptorOf (decodeOpcode op)) (s.afterRead s.pc)).result with
    | ok u => rw [(runDescriptor_of_ok stage).1] at h; cases h
    | error g =>
      rw [runDescriptor_of_error stage] at h ⊢
      cases h
      exact .inr ⟨op, stage, rfl⟩

/-- The accesses of a step: the opcode read alone, or it and those of the execute stage of the row selected. -/
theorem stepTrace_accesses (s : State) :
    (stepTrace s).events = [.read s.pc] ∨
    ∃ op, ((stepTrace s).events.filter fun e => !isCatchup e) =
      .read s.pc :: (execute (descriptorOf (decodeOpcode op)) (s.afterRead s.pc)).events := by
  cases fetched : s.bus.read s.pc with
  | error f => exact .inl (by rw [stepTrace_of_read_error fetched])
  | ok op =>
    refine .inr ⟨op, ?_⟩
    rw [stepTrace_of_read fetched, ← runDescriptor_accesses]
    rfl

/-! ### The catch-up -/

/-- Settles O50: the events of a step are accesses but for the last of a successful one. -/
theorem catchupOnceAndLast : Obligations.CatchupOnceAndLast := by
  intro s
  have accesses {d : Descriptor} {u : State} : ∀ e ∈ BusEvent.read s.pc :: (execute d u).events, isCatchup e = false :=
    List.forall_mem_cons.mpr ⟨rfl, fun e => execute_only_accesses⟩
  refine ⟨fun t next => ?next, fun f fault => ?fault⟩
  case next =>
    obtain ⟨op, u, fetched, stage, notices, rfl, events⟩ := stepTrace_of_next next
    obtain ⟨⟨sameFreq, -⟩, -⟩ := parametersNeverChange s _ next
    rw [State.conclude_freqHz] at sameFreq
    refine ⟨op, _, fetched, events, accesses, ?_, rfl⟩
    rw [State.conclude_notices, State.cycleTime, sameFreq, notices]
  case fault =>
    obtain ⟨-, events⟩ | ⟨op, -, events⟩ := stepTrace_of_fault fault <;> rw [events]
    · exact List.forall_mem_singleton.mpr rfl
    · exact accesses

/-! ### How many accesses -/

theorem bind_events_length {α β : Type} {x : Traced α} {k : α → Traced β} {m n : Nat} (first : x.events.length ≤ m)
    (rest : ∀ a, (k a).events.length ≤ n) : (x.bind k).events.length ≤ m + n := by
  cases h : x.result with
  | error f => rw [Traced.bind_of_error h]; exact Nat.le_add_right_of_le first
  | ok a =>
    rw [Traced.bind_of_ok h, List.length_append]
    exact Nat.add_le_add first (rest a)

/-- How many accesses resolving an operand makes. -/
def sourceReads : Operand → Nat
  | .reg _ => 0
  | .none => 0
  | .deref _ => 1
  | .immByte => 1
  | .offsetImm => 2
  | .immWord => 2

/-- How many accesses a store to a destination makes. -/
def storeAccesses : Operand → Nat
  | .deref _ => 1
  | .offsetImm => 2
  | _ => 0

theorem resolve_events_length (s : State) (o : Operand) (ia : Word) :
    (resolve s o ia).events.length ≤ sourceReads o := by
  have one {α : Type} {u : State} {a : Word} {k : Byte × State → Traced α} {n : Nat}
      (rest : ∀ x, (k x).events.length ≤ n) : ((memRead u a).bind k).events.length ≤ 1 + n :=
    bind_events_length (Nat.le_refl 1) rest
  cases o with
  | reg r => cases r <;> exact Nat.le_refl 0
  | none => exact Nat.le_refl 0
  | deref r => exact one (n := 0) fun _ => Nat.le_refl 0
  | immByte => exact one (n := 0) fun _ => Nat.le_refl 0
  | offsetImm => exact one (n := 1) fun _ => one (n := 0) fun _ => Nat.le_refl 0
  | immWord => exact one (n := 1) fun _ => one (n := 0) fun _ => Nat.le_refl 0

theorem storeByte_events_length (s : State) (dst : Operand) (v : Byte) (ia : Word) :
    (storeByte s dst v ia).events.length ≤ storeAccesses dst := by
  cases dst with
  | offsetImm =>
    have address : (resolveAddr s .offsetImm ia).events.length ≤ 1 :=
      bind_events_length (n := 0) (Nat.le_refl 1) fun _ => Nat.le_refl 0
    exact bind_events_length (n := 1) address fun _ => Nat.le_refl 1
  | deref p => exact Nat.le_refl 1
  | reg r => cases r <;> exact Nat.le_refl 0
  | _ => exact Nat.le_refl 0

/-- An execute stage makes no more accesses than its two operands do. -/
theorem execute_events_length (d : Descriptor) (s : State) :
    (execute d s).events.length ≤ sourceReads d.src + storeAccesses d.dst := by
  have source := resolve_events_length s d.src s.pc
  cases hk : d.kind with
  | nop => rw [execute_nop hk]; exact Nat.zero_le _
  | invalid => rw [execute_invalid hk]; exact Nat.zero_le _
  | placeholder k => rw [execute_placeholder hk]; exact Nat.zero_le _
  | ld =>
    rw [execute_ld hk]
    refine bind_events_length source fun v => ?_
    have store := bind_events_length (m := 0) (Nat.le_of_eq (congrArg List.length (expectByte_events s.pc v.1)))
      fun b => storeByte_events_length v.2 d.dst b s.pc
    omega
  | add =>
    rw [execute_add hk]
    cases d.dst with
    | reg r =>
      cases r <;> refine bind_events_length source fun v => ?_
      · exact bind_events_length (m := 0) (n := 0) (by simp) fun _ => Nat.le_refl 0
      · exact bind_events_length (m := 0) (n := 0) (by simp) fun _ => Nat.le_refl 0
    | _ => exact Nat.zero_le _

theorem sourceReads_le (o : Operand) : sourceReads o ≤ 2 := by cases o <;> simp [sourceReads]

theorem storeAccesses_le (o : Operand) : storeAccesses o ≤ 2 := by cases o <;> simp [storeAccesses]

/-- The rows of the default table make at most two accesses after the opcode read. -/
theorem rowForm_accesses {d : Descriptor} (h : RowForm d) : sourceReads d.src + storeAccesses d.dst ≤ 2 := by
  cases h with
  | load w c hr ho => exact sourceReads_le _
  | addByte w c ho => exact sourceReads_le _
  | _ => exact Nat.le_of_ble_eq_true rfl

/-- Settles O51: the accesses of a step are the opcode read and those of the row's two operands. -/
theorem accessesAreBounded : Obligations.AccessesAreBounded := by
  refine ⟨fun s => ⟨?first, ?step⟩, fun d s => ?any⟩
  case first =>
    cases fetched : s.bus.read s.pc with
    | ok op => rw [stepTrace_of_read fetched]; rfl
    | error f => rw [stepTrace_of_read_error fetched]; rfl
  case step =>
    obtain events | ⟨op, events⟩ := stepTrace_accesses s <;> rw [events]
    · exact Nat.le_of_ble_eq_true rfl
    · have bound := execute_events_length (descriptorOf (decodeOpcode op)) (s.afterRead s.pc)
      have row := rowForm_accesses (rowForm (decodeOpcode op))
      rw [List.length_cons]
      omega
  case any =>
    rw [runDescriptor_accesses]
    have bound := execute_events_length d s
    have src := sourceReads_le d.src
    have dst := storeAccesses_le d.dst
    omega

/-! ### The accesses of a successful step, in order -/

theorem sourceAccesses_afterRead (s : State) (a : Word) (n : Byte) (o : Operand) :
    sourceAccesses (s.afterRead a) n o = sourceAccesses s n o := by
  cases o with
  | deref r => cases r <;> simp [sourceAccesses, State.pointer]
  | _ => rfl

/-- The accesses of a source that answers a value (R152). -/
theorem resolve_accesses {s u : State} {o : Operand} {v : Value} (h : (resolve s o s.pc).result = .ok (v, u)) :
    ∃ n, (resolve s o s.pc).events = sourceAccesses s n o ∧ (o = .offsetImm → s.bus.read (s.pc + 1) = .ok n) := by
  cases o with
  | reg r => exact ⟨0, by cases r <;> rfl, by rintro ⟨⟩⟩
  | none => cases h
  | deref r =>
    refine ⟨0, ?_, by rintro ⟨⟩⟩
    rcases s.bus.read_total (s.pointer r) with ⟨b, hb⟩ | hb
    · rw [resolve_deref_ok s s.pc hb]; rfl
    · rw [resolve_deref_error s s.pc hb]; rfl
  | immByte =>
    refine ⟨0, ?_, by rintro ⟨⟩⟩
    rcases s.bus.read_total (immAddr s.pc 1) with ⟨b, hb⟩ | hb
    · rw [resolve_immByte_ok s s.pc hb]; rfl
    · rw [resolve_immByte_error s s.pc hb]; rfl
  | offsetImm =>
    rcases s.bus.read_total (immAddr s.pc 1) with ⟨n, hn⟩ | hn
    · refine ⟨n, ?_, fun _ => hn⟩
      rcases (s.bus.afterRead (immAddr s.pc 1)).read_total (offsetAddr n) with ⟨b, hb⟩ | hb
      · rw [resolve_offsetImm_ok s s.pc hn hb]; rfl
      · rw [resolve_offsetImm_error' s s.pc hn hb]; rfl
    · rw [resolve_offsetImm_error s s.pc hn] at h; cases h
  | immWord =>
    refine ⟨0, ?_, by rintro ⟨⟩⟩
    rcases s.bus.read_total (immAddr s.pc 1) with ⟨x, hx⟩ | hx
    · rcases (s.bus.afterRead (immAddr s.pc 1)).read_total (immAddr s.pc 2) with ⟨y, hy⟩ | hy
      · rw [resolve_immWord_ok s s.pc hx hy]; rfl
      · rw [resolve_immWord_error' s s.pc hx hy]; rfl
    · rw [resolve_immWord_error s s.pc hx] at h; cases h

/-- The accesses of a store that succeeds (R152), on a machine `u` with the registers of `s`. -/
theorem storeByte_accesses {s u t : State} {dst : Operand} {v : Byte} (pointers : ∀ p, u.pointer p = s.pointer p)
    (h : (storeByte u dst v s.pc).result = .ok t) :
    ∃ n, (storeByte u dst v s.pc).events = destinationAccesses s n v dst ∧
      (dst = .offsetImm → u.bus.read (s.pc + 1) = .ok n) := by
  cases dst with
  | reg r => exact ⟨0, by cases r <;> rfl, by rintro ⟨⟩⟩
  | deref p =>
    refine ⟨0, ?_, by rintro ⟨⟩⟩
    rw [storeByte_deref, pointers]
    rfl
  | offsetImm =>
    rcases u.bus.read_total (immAddr s.pc 1) with ⟨n, hn⟩ | hn
    · refine ⟨n, ?_, fun _ => hn⟩
      rw [storeByte_offsetImm_ok hn]
      rfl
    · rw [storeByte_offsetImm_error hn] at h; cases h
  | immByte => cases h
  | immWord => cases h
  | none => cases h

/-- A row of the default table that stores at an offset immediate has a register as its source. -/
theorem rowForm_storeHigh {d : Descriptor} (h : RowForm d) (hd : d.dst = .offsetImm) : d.src = .reg (.byte .a) := by
  cases h with
  | storeHigh w c => rfl
  | _ => cases hd

/-- Only an offset immediate's accesses depend on the offset byte. -/
theorem destinationAccesses_congr {dst : Operand} (h : dst ≠ .offsetImm) (s : State) (n n' v : Byte) :
    destinationAccesses s n v dst = destinationAccesses s n' v dst := by
  cases dst with
  | offsetImm => exact absurd rfl h
  | _ => rfl

/-- The execute stage of an LD that succeeds: its source answered a byte, and its store succeeded; its accesses are those
of the two. -/
theorem ldStage_ok {dst src : Operand} {s t : State} (h : (ldStage dst src s).result = .ok t) :
    ∃ v u, (resolve s src s.pc).result = .ok (.byte v, u) ∧ (storeByte u dst v s.pc).result = .ok t ∧
      (ldStage dst src s).events = (resolve s src s.pc).events ++ (storeByte u dst v s.pc).events := by
  obtain ⟨⟨x, u⟩, source, h1⟩ := Traced.bind_result_ok.mp h
  cases x with
  | word w => cases h1
  | byte v =>
    rw [expectByte_byte, Traced.pure_bind] at h1
    refine ⟨v, u, source, h1, ?_⟩
    unfold ldStage
    rw [Traced.bind_of_ok source]
    simp only [expectByte_byte, Traced.pure_bind]

/-- The execute stage of an ADD that succeeds makes the accesses of its source. -/
theorem addStage_ok {dst src : Operand} {s t : State} (h : (addStage dst src s).result = .ok t) :
    ∃ x, (resolve s src s.pc).result = .ok x ∧ (addStage dst src s).events = (resolve s src s.pc).events := by
  cases dst with
  | reg r =>
    cases r <;>
      (obtain ⟨x, source, h1⟩ := Traced.bind_result_ok.mp h
       obtain ⟨b, narrowed, -⟩ := Traced.bind_result_ok.mp h1
       refine ⟨x, source, ?_⟩
       simp [addStage, Traced.bind_of_ok source, Traced.bind_of_ok narrowed])
  | _ => cases h

/-- Settles O52: `stepTrace_of_next` puts the execute stage between the opcode read and the catch-up; its accesses are
those of its operands (`resolve_accesses`, `storeByte_accesses`), of which at most one reads an offset byte. -/
theorem accessesComeInOrder : Obligations.AccessesComeInOrder := by
  intro s t op fetched next
  obtain ⟨op', u, fetched', stage, -, -, events⟩ := stepTrace_of_next next
  obtain rfl : op = op' := Except.ok.inj (fetched.symm.trans fetched')
  have row := rowForm (decodeOpcode op)
  generalize descriptorOf (decodeOpcode op) = d at *
  refine ⟨fun kind => ?nop, fun kind => ?add, fun kind => ?ld⟩
  case nop =>
    rw [events, execute_nop kind]
    rfl
  case add =>
    rw [execute_add kind] at events stage
    obtain ⟨⟨v, w⟩, source, accesses⟩ := addStage_ok stage
    obtain ⟨n, reads, offset⟩ := resolve_accesses (s := s.afterRead s.pc) source
    refine ⟨n, ?_, offset⟩
    rw [events, accesses, ← sourceAccesses_afterRead s s.pc, ← reads]
  case ld =>
    rw [execute_ld kind] at events stage
    obtain ⟨v, w, source, store, accesses⟩ := ldStage_ok stage
    obtain ⟨n, reads, offset⟩ := resolve_accesses (s := s.afterRead s.pc) source
    have pointers (p : RegName) : w.pointer p = s.pointer p := by
      obtain ⟨as, -, rfl⟩ := resolve_leaves _ _ source
      cases p <;> simp [State.pointer]
    obtain ⟨n', writes, offset'⟩ := storeByte_accesses (s := s) pointers store
    have all (m : Byte) (hsrc : sourceAccesses s m d.src = sourceAccesses s n d.src)
        (hdst : destinationAccesses s m v d.dst = destinationAccesses s n' v d.dst) :
        (stepTrace s).events = .read s.pc :: sourceAccesses s m d.src ++ destinationAccesses s m v d.dst ++
          [.catchup ⟨s.freqHz, d.cycles⟩] := by
      rw [events, accesses, hsrc, hdst, ← writes, ← sourceAccesses_afterRead s s.pc, ← reads]
      simp
    by_cases high : d.dst = .offsetImm
    · have register := rowForm_storeHigh row high
      have same : w = s.afterRead s.pc := by
        rw [register] at source
        cases source
        rfl
      refine ⟨n', v, w, source, all n' (by rw [register]; rfl) rfl, fun _ => ?_⟩
      rw [← offset' high, same]
      rfl
    · exact ⟨n, v, w, source, all n rfl (destinationAccesses_congr high s n n' v),
        fun either => offset (either.resolve_right high)⟩

/-! ### The fault a step ends in -/

/-- A store to anything but a 16-bit register raises no register fault. -/
theorem storeByte_not_badRegister {s : State} {dst : Operand} {v : Byte} {ia : Word} {r : RegName} {w : Width}
    (h : (storeByte s dst v ia).result = .error (.badRegisterAccess r w)) : ∃ q, dst = .reg (.word q) := by
  have write {u : State} {a : Word} : (memWrite u a v).result ≠ .error (.badRegisterAccess r w) := fun e => by
    rcases bus_write_total u.bus a v with ⟨b, hb⟩ | hb
    · rw [memWrite_of_ok hb] at e; cases e
    · rw [memWrite_of_error hb] at e; cases e
  cases dst with
  | reg q =>
    cases q with
    | byte q => cases h
    | word q => exact ⟨q, rfl⟩
  | deref p => rw [storeByte_deref] at h; exact absurd h write
  | offsetImm =>
    rcases s.bus.read_total (immAddr ia 1) with ⟨n, hn⟩ | hn
    · rw [storeByte_offsetImm_ok hn] at h; exact absurd h write
    · rw [storeByte_offsetImm_error hn] at h; cases h
  | immByte => cases h
  | immWord => cases h
  | none => cases h

theorem resolve_not_badRegister {s : State} {o : Operand} {ia : Word} {r : RegName} {w : Width} :
    (resolve s o ia).result ≠ .error (.badRegisterAccess r w) := fun h => by
  obtain ⟨a, e⟩ | e := resolve_fault s ia h <;> cases e

/-- LD raises a register fault only for a byte moved to a 16-bit register. -/
theorem ldStage_badRegister {dst src : Operand} {s : State} {r : RegName} {w : Width}
    (h : (ldStage dst src s).result = .error (.badRegisterAccess r w)) :
    ∃ q v u, dst = .reg (.word q) ∧ (resolve s src s.pc).result = .ok (.byte v, u) := by
  rcases Traced.bind_result_error.mp h with source | ⟨⟨x, u⟩, source, h1⟩
  · exact absurd source resolve_not_badRegister
  · cases x with
    | word x => cases h1
    | byte v =>
      obtain ⟨q, hq⟩ := storeByte_not_badRegister h1
      exact ⟨q, v, u, hq, source⟩

theorem addStage_not_badRegister {dst src : Operand} {s : State} {r : RegName} {w : Width} :
    (addStage dst src s).result ≠ .error (.badRegisterAccess r w) := fun h => by
  cases dst with
  | reg q =>
    cases q <;> rcases Traced.bind_result_error.mp h with source | ⟨⟨x, u⟩, source, h1⟩
    · exact absurd source resolve_not_badRegister
    · cases x <;> cases h1
    · exact absurd source resolve_not_badRegister
    · cases x <;> cases h1
  | _ => cases h

/-- A row of the default table that loads a 16-bit register has a word as its source. -/
theorem rowForm_word_source {d : Descriptor} (h : RowForm d) (hk : d.kind = .ld) {q : Reg16}
    (hd : d.dst = .reg (.word q)) {s u : State} {ia : Word} {v : Byte} :
    (resolve s d.src ia).result ≠ .ok (.byte v, u) := fun source => by
  cases h with
  | loadWord w c hr => simp [resolve, Traced.bind_result_ok] at source
  | loadSp w c => cases source
  | addPair w c hq => cases hk
  | addSp w c => cases hk
  | _ => cases hd

/-- No row of the default table raises a register fault. -/
theorem execute_not_badRegister {d : Descriptor} (h : RowForm d) {s : State} {r : RegName} {w : Width} :
    (execute d s).result ≠ .error (.badRegisterAccess r w) := fun raised => by
  cases hk : d.kind with
  | nop => rw [execute_nop hk] at raised; cases raised
  | invalid => rw [execute_invalid hk] at raised; cases raised
  | placeholder k => rw [execute_placeholder hk] at raised; cases raised
  | ld =>
    rw [execute_ld hk] at raised
    obtain ⟨q, v, u, hd, source⟩ := ldStage_badRegister raised
    exact rowForm_word_source h hk hd source
  | add => rw [execute_add hk] at raised; exact addStage_not_badRegister raised

/-- Settles O49: the opcode read is rejected, or the execute stage faults in one of the ways of `execute_cases`; the default
table rules the register fault out. -/
theorem faultsOfAStep : Obligations.FaultsOfAStep := by
  intro s f fault
  obtain ⟨rejected, events⟩ | ⟨op, stage, events⟩ := stepTrace_of_fault fault
  · refine .inr (.inr ⟨[], s.pc, Bus.read_error rejected, .inl ⟨events, rejected⟩⟩)
  · rw [events]
    cases execute_cases (descriptorOf (decodeOpcode op)) (s.afterRead s.pc) with
    | done as t leaves runs => rw [runs] at stage; cases stage
    | stored as a v b taken runs => rw [runs] at stage; cases stage
    | readRejected as a rejects runs =>
      rw [runs] at stage ⊢
      cases stage
      exact .inr (.inr ⟨s.pc :: as, a, rfl, .inl ⟨rfl, rejects⟩⟩)
    | writeRejected as a v rejects runs =>
      rw [runs] at stage ⊢
      cases stage
      exact .inr (.inr ⟨s.pc :: as, a, rfl, .inr ⟨v, rfl, rejects⟩⟩)
    | raised as g own runs =>
      obtain rfl : g = f := by rw [runs] at stage; exact Except.error.inj stage
      obtain illegal | unimplemented | ⟨r, w, rfl⟩ := own
      · exact .inl illegal
      · exact .inr (.inl unimplemented)
      · exact absurd stage (execute_not_badRegister (rowForm _))

/-! ### Stores -/

/-- The write that a successful execute stage made is its store. -/
theorem execute_stored {d : Descriptor} {s u : State} {a : Word} {v : Byte} (stage : (execute d s).result = .ok u)
    (mem : .write a v ∈ (execute d s).events) :
    ∃ as b, (s.bus.afterReads as).write a v = .ok b ∧ u = { s with bus := b } := by
  cases execute_cases d s with
  | done as t leaves runs => rw [runs] at mem; simp at mem
  | stored as a' v' b taken runs =>
    rw [runs] at mem stage
    obtain ⟨rfl, rfl⟩ : a = a' ∧ v = v' := by simpa using mem
    cases stage
    exact ⟨as, b, taken, rfl⟩
  | readRejected as a rejects runs => rw [runs] at stage; cases stage
  | writeRejected as a v rejects runs => rw [runs] at stage; cases stage
  | raised as f own runs => rw [runs] at stage; cases stage

/-- Settles O53: the write that the step made is its store (`execute_stored`), which plain memory reads back
(`storesByte_conclude`); the next fetch reads it there and leaves the machine as it is. -/
theorem storesAreSeenByTheNextFetch : Obligations.StoresAreSeenByTheNextFetch := by
  intro s t a v hwf next mem plain atPc
  have readBack : t.bus.read a = .ok v := by
    obtain ⟨op, u, -, stage, -, rfl, events⟩ := stepTrace_of_next next
    have stored : .write a v ∈ (execute (descriptorOf (decodeOpcode op)) (s.afterRead s.pc)).events := by
      simpa [events] using mem
    obtain ⟨as, b, taken, rfl⟩ := execute_stored stage stored
    obtain ⟨-, -, -, reads⟩ := storesByte_conclude (s := s) (as := s.pc :: as) taken
      (descriptorOf (decodeOpcode op)).width (descriptorOf (decodeOpcode op)).cycles
    exact reads hwf plain
  have steady : t.bus.steady a = true := by
    obtain ⟨⟨-, -, -, ramStart, ramSize, perStart, perSize⟩, vram⟩ := parametersNeverChange s t next
    refine steady_of_plain ?_
    simpa [Bus.plain, Ram.holds, Peripheral.holds, ramStart, ramSize, perStart, perSize, vram] using plain
  subst atPc
  rw [step_of_read readBack, State.afterRead, Bus.afterRead_of_steady steady]

/-- A store's read is that of the offset byte of an offset immediate. -/
theorem storeByte_reads {s : State} {dst : Operand} {v : Byte} {ia a : Word}
    (h : .read a ∈ (storeByte s dst v ia).events) : dst = .offsetImm ∧ a = ia + 1 := by
  obtain ⟨hd, e⟩ | ⟨b, e⟩ := storeByte_only_writes_its_destination h <;> cases e
  exact ⟨hd, rfl⟩

/-- Only LD writes memory, and only in its store, after its source has answered a byte. -/
theorem execute_write {d : Descriptor} {s : State} {a : Word} {v : Byte} (mem : .write a v ∈ (execute d s).events) :
    d.kind = .ld ∧ ∃ b u, (resolve s d.src s.pc).result = .ok (.byte b, u) ∧
      .write a v ∈ (storeByte u d.dst b s.pc).events := by
  have noSource {o : Operand} : .write a v ∉ (resolve s o s.pc).events := fun h => by
    obtain ⟨x, e⟩ := resolve_only_reads s s.pc h; cases e
  cases hk : d.kind with
  | nop => rw [execute_nop hk] at mem; cases mem
  | invalid => rw [execute_invalid hk] at mem; cases mem
  | placeholder k => rw [execute_placeholder hk] at mem; cases mem
  | ld =>
    rw [execute_ld hk] at mem
    rcases Traced.mem_bind_events mem with h | ⟨⟨x, u⟩, source, h⟩
    · exact absurd h noSource
    · cases x with
      | word x => cases h
      | byte b => exact ⟨rfl, b, u, source, by simpa using h⟩
  | add =>
    have h : .write a v ∈ (runAdd d.dst d.src 0 0 s).events := by
      rw [runAdd_eq]
      rw [execute_add hk] at mem
      cases e : (addStage d.dst d.src s).result with
      | ok t => rw [Traced.bind_of_ok e]; exact List.mem_append_left _ mem
      | error f => rw [Traced.bind_of_error e]; exact mem
    obtain ⟨x, e⟩ | ⟨x, e⟩ := runAdd_writes_no_memory h <;> cases e

/-- The accesses of a row of the default table that writes: the write, or the read of the byte after the opcode and the
write. -/
theorem rowForm_write {d : Descriptor} (h : RowForm d) {s : State} {a : Word} {v : Byte}
    (mem : .write a v ∈ (execute d s).events) :
    (execute d s).events = [.write a v] ∨ (execute d s).events = [.read (s.pc + 1), .write a v] := by
  obtain ⟨-, b, u, source, store⟩ := execute_write mem
  cases h with
  | store w c hp hr =>
    have runs {p : RegName} {r : Reg8} {w c : Nat} : (execute ⟨.ld, .deref p, .reg (.byte r), w, c⟩ s).events =
        [.write (s.pointer p) (s.get8 r)] := rfl
    rw [runs] at mem ⊢
    exact .inl (by rw [List.mem_singleton.mp mem])
  | storeImmediate w c =>
    rcases s.bus.read_total (s.pc + 1) with ⟨n, hn⟩ | hn
    · have runs : (execute ⟨.ld, .deref (.word .hl), .immByte, w, c⟩ s).events =
          [.read (s.pc + 1), .write s.hl n] := by
        rw [execute_ld rfl, ldStage, resolve_immByte_ok s s.pc hn]; rfl
      rw [runs] at mem ⊢
      obtain ⟨rfl, rfl⟩ : a = s.hl ∧ v = n := by simpa using mem
      exact .inr rfl
    · rw [resolve_immByte_error s s.pc hn] at source; cases source
  | storeHigh w c =>
    rcases s.bus.read_total (s.pc + 1) with ⟨n, hn⟩ | hn
    · have runs : (execute ⟨.ld, .offsetImm, .reg (.byte .a), w, c⟩ s).events =
          [.read (s.pc + 1), .write (offsetAddr n) (s.get8 .a)] := by
        rw [execute_ld rfl, ldStage, resolve_reg8, Traced.pure_bind, expectByte_byte, Traced.pure_bind,
          storeByte_offsetImm_ok (ia := s.pc) hn]
        rfl
      rw [runs] at mem ⊢
      obtain ⟨rfl, rfl⟩ : a = offsetAddr n ∧ v = s.get8 .a := by simpa using mem
      exact .inr rfl
    · cases source
      rw [storeByte_offsetImm_error (ia := s.pc) hn] at store
      simp at store
  | load w c hr ho => cases store
  | loadWord w c hr => cases store
  | loadSp w c => cases store
  | addByte w c ho => cases store
  | addPair w c hq => cases store
  | addSp w c => cases store
  | nop w c => cases store
  | invalid w c => cases store
  | placeholder k w c => cases store

/-- Settles O60: a step that writes runs a storing row, whose accesses `rowForm_write` lists; over any table only LD writes
(`execute_write`), and its store reads nothing but its offset byte. -/
theorem noOperationReadsAndWritesOneAddress : Obligations.NoOperationReadsAndWritesOneAddress := by
  refine ⟨fun s a v mem => ?step, fun d s a v mem => ?kind, fun s dst v ia a => storeByte_reads⟩
  case kind =>
    have access : .write a v ∈ (execute d s).events := by
      rw [← runDescriptor_accesses]
      exact List.mem_filter.mpr ⟨mem, rfl⟩
    exact (execute_write access).1
  case step =>
    intro accesses
    have listed : accesses = [.read s.pc, .write a v] ∨ accesses = [.read s.pc, .read (s.pc + 1), .write a v] := by
      obtain events | ⟨op, events⟩ := stepTrace_accesses s
      · simp [events] at mem
      · have write : .write a v ∈ accesses := List.mem_filter.mpr ⟨mem, rfl⟩
        have rest : accesses = .read s.pc :: (execute (descriptorOf (decodeOpcode op)) (s.afterRead s.pc)).events := events
        rw [rest] at write ⊢
        have stored : .write a v ∈ (execute (descriptorOf (decodeOpcode op)) (s.afterRead s.pc)).events := by
          simpa using write
        exact (rowForm_write (rowForm _) stored).imp (congrArg _) (congrArg _)
    refine ⟨listed, fun read => ?_⟩
    have access : .read a ∈ accesses := List.mem_filter.mpr ⟨read, rfl⟩
    rcases listed with e | e <;> rw [e] at access
    · exact .inl (by simpa using access)
    · simpa using access

end Sys2Proof.Proofs
end

section
/-! The statements about reset, construction and the host's other calls (spec/10_state.md R44 to R46,
spec/60_exceptions.md R235 to R260, spec/70_reset_and_hazards.md R270 to R273). -/
namespace Sys2Proof.Proofs
open Sys2Proof.Machine Sys2Proof.Terms

/-! ### Construction -/

theorem rangeOk_iff (start : Word) (size : Nat) : rangeOk start size = true ↔ rangeLegal start size := by
  simp only [rangeOk, rangeLegal, Bool.and_eq_true, decide_eq_true_eq]
  omega

/-- Four positions are distinct when the list of them has no duplicate. -/
theorem distinct_iff (p : FlagBits) : p.distinct = true ↔ [p.z, p.n, p.h, p.c].Nodup := by
  simp [FlagBits.distinct, and_assoc]

theorem ram_wf_iff (r : Ram) : r.wf = true ↔ rangeLegal r.start r.size ∧ contentsCanonical r.start r.size r.cells := by
  rw [Ram.wf, Bool.and_eq_true, rangeOk_iff, Memory.wfIn_iff]
  exact Iff.rfl

theorem peripheral_wf_iff (p : Peripheral) :
    p.wf = true ↔ rangeLegal p.start p.size ∧ ∀ m, p.unit = .vram m → contentsCanonical p.start p.size m := by
  obtain ⟨start, size, unit⟩ := p
  cases unit with
  | device d => simp [Peripheral.wf, rangeOk_iff]
  | vram m =>
    simp only [Peripheral.wf, Bool.and_eq_true, rangeOk_iff, Memory.wfIn_iff, PeripheralUnit.vram.injEq, forall_eq']
    exact Iff.rfl

/-- What construction checks is the constraints of R6 on the parameters and INIT. -/
theorem launch_wf_iff (p : Params) (i : Init) : (State.launch p i).wf = true ↔ launchLegal p i := by
  have ram := ram_wf_iff (State.launch p i).bus.ram
  have per := peripheral_wf_iff (State.launch p i).bus.per
  have distinct := distinct_iff p.flagBits
  simp only [State.wf, Bool.and_eq_true, decide_eq_true_eq, ram, per]
  constructor
  · rintro ⟨⟨⟨⟨ramRange, ramCells⟩, perRange, perCells⟩, positions⟩, freq⟩
    exact ⟨freq, ramRange, perRange, distinct.mp positions, ramCells, perCells⟩
  · rintro ⟨freq, ramRange, perRange, positions, ramCells, perCells⟩
    exact ⟨⟨⟨⟨ramRange, ramCells⟩, perRange, perCells⟩, distinct.mpr positions⟩, freq⟩

/-- Settles O43: construction checks `launchLegal` (`launch_wf_iff`), and then every part is as given. -/
theorem constructionTakesTheLaunchValues : Obligations.ConstructionTakesTheLaunchValues := by
  intro p i
  refine ⟨fun legal => ⟨State.launch p i, if_pos ((launch_wf_iff p i).mpr legal), ?_⟩,
    fun illegal => if_neg fun hwf => illegal ((launch_wf_iff p i).mp hwf)⟩
  exact ⟨rfl, rfl, rfl, rfl, rfl, rfl, rfl, rfl, rfl, rfl, rfl, rfl, rfl⟩

/-- Settles O42: by evaluation of the reset state. -/
theorem resetIsAUsableLaunch : Obligations.ResetIsAUsableLaunch := ⟨by decide, by decide⟩

/-! ### The other calls -/

/-- Settles O56: `interrupt` answers the hook and the same machine. -/
theorem interruptIsAStub : Obligations.InterruptIsAStub := ⟨fun _ => ⟨rfl, id⟩, rfl⟩

/-- Settles O57: the quotient of `2 N + f` by `2 f` lies within a half of `N / f`, upper end excluded. -/
theorem microsRoundsToTheNearest : Obligations.MicrosRoundsToTheNearest := by
  intro f c hf
  have notZero : f ≠ 0 := by omega
  have positive : (0 : ℚ) < f := by exact_mod_cast hf
  have below : (2 * (1000000 * c) + f) / (2 * f) * (2 * f) ≤ 2 * (1000000 * c) + f := Nat.div_mul_le_self _ _
  have above : 2 * (1000000 * c) + f < ((2 * (1000000 * c) + f) / (2 * f) + 1) * (2 * f) :=
    Nat.lt_mul_of_div_lt (Nat.lt_succ_self _) (by omega)
  refine ⟨_, if_neg notZero, ?_, ?_⟩ <;> generalize (2 * (1000000 * c) + f) / (2 * f) = m at *
  · have below' : (m : ℚ) * (2 * f) ≤ 2 * (1000000 * c) + f := by exact_mod_cast below
    rw [le_div_iff₀ positive]
    linarith
  · have above' : 2 * (1000000 * c) + (f : ℚ) < (m + 1) * (2 * f) := by exact_mod_cast above
    rw [div_lt_iff₀ positive]
    linarith

/-! ### The report of a fault -/

/-- The low byte of the information word of a register fault is the register's place in R9's list. -/
theorem registerOrder_infoWord (r : RegName) (w : Width) :
    registerOrder[(getLow (Fault.badRegisterAccess r w).infoWord).toNat]? = some r := by
  cases w <;> rcases r with r | r <;> cases r <;> rfl

/-- The high byte of the information word of a register fault is the width asked for, in bits. -/
theorem getHigh_infoWord (r : RegName) (w : Width) :
    getHigh (Fault.badRegisterAccess r w).infoWord = widthBits w := getHigh_wordOf (widthBits w) (registerNumber r)

/-- The two bytes of the information word identify a register fault. -/
theorem badRegisterAccess_of_infoWord {r r' : RegName} {w w' : Width}
    (h : (Fault.badRegisterAccess r w).infoWord = (Fault.badRegisterAccess r' w').infoWord) : r = r' ∧ w = w' := by
  constructor
  · have low := registerOrder_infoWord r w
    rw [h, registerOrder_infoWord r' w'] at low
    exact (Option.some.inj low).symm
  · have high : widthBits w = widthBits w' := by rw [← getHigh_infoWord r w, h, getHigh_infoWord r' w']
    revert high
    cases w <;> cases w' <;> decide

/-- Settles O59: the cause numbers tell the four kinds of fault apart, and within a kind the information word identifies
it. -/
theorem faultReportIdentifiesTheFault : Obligations.FaultReportIdentifiesTheFault := by
  refine ⟨fun s => rfl, fun a => ⟨rfl, rfl, rfl, rfl, rfl, rfl⟩,
    fun r w => ⟨rfl, registerOrder_infoWord r w, ?width⟩, fun f g cause info => ?identified⟩
  case width => rw [getHigh_infoWord]; cases w <;> rfl
  case identified =>
    cases f <;> cases g <;> cases cause
    case outOfBounds.outOfBounds.refl => exact congrArg _ info
    case illegalInstruction.illegalInstruction.refl => exact congrArg _ info
    case unimplemented.unimplemented.refl => exact congrArg _ info
    case badRegisterAccess.badRegisterAccess.refl =>
      obtain ⟨rfl, rfl⟩ := badRegisterAccess_of_infoWord info
      rfl

end Sys2Proof.Proofs
end
